-- ==== Sys2Proof/Word.lean ====
section
/-! DEFINITION. The word types of the block: every value is an unsigned number of a stated width (00_scope R6, R8). -/

namespace Sys2Proof

/-- One lane of a frame: BYTE_BITS = 8 (00_scope R6). -/
abbrev Byte := BitVec 8

/-- A register address: ADDR_BITS = 24 (00_scope R6). The block treats it as an opaque name (20_memory R52). -/
abbrev Addr := BitVec 24

/-- A register value: DATA_BITS = 32 (00_scope R6). -/
abbrev Value := BitVec 32

/-- A 3-bit code: `variant`, `status` (10_state R20), the cause codes (60_exceptions R151) and `sel` (30_encoding R76). -/
abbrev Code := BitVec 3

end Sys2Proof
end

