-- ==== Sys2Proof/Config.lean ====
section
/-! DEFINITION. The parameters of the block (00_scope R6): the literals the source fixes as named constants, and the
parameters a configuration may set as one plain record. -/

namespace Sys2Proof.Config

/-- OP_WRITE, the first byte of a write frame (00_scope R6). Log entry 21: the document's literals are unaudited (R2). -/
def opWrite : Byte := 0x12

/-- OP_READ, the first byte of a read-request frame (00_scope R6). -/
def opRead : Byte := 0x13

/-- LEN_WRITE_FRAME (00_scope R6). -/
def lenWriteFrame : Nat := 8

/-- LEN_READ_FRAME (00_scope R6). -/
def lenReadFrame : Nat := 4

/-- LEN_RESPONSE, the expected length of a read response (00_scope R6). -/
def lenResponse : Nat := 4

/-- PROBE_ADDR, the identification address every probe writes (00_scope R6, 42_detector R120). -/
def probeAddr : Addr := 0x000050

/-- MAGIC_MICROV1, the value of the first probe (00_scope R6, 42_detector R120). -/
def magicMicroV1 : Value := 0x0452484E

end Sys2Proof.Config

namespace Sys2Proof

/-- The parameters a configuration sets (00_scope R6). `none` in an OPEN parameter says that no value is supplied;
no step substitutes one (R7). Log entry 5: the record stands in State as data that no step writes (10_state R38). -/
structure Params where
  /-- PROBE_ENABLE_ALL: whether the second and third probes run (42_detector R120). -/
  probeEnableAll : Bool
  /-- MAGIC_MICROV2, OPEN. -/
  magicMicroV2 : Option Value
  /-- MAGIC_NANO90, OPEN. -/
  magicNano90 : Option Value
  /-- SETTLE_ORDINARY: after an ordinary write and after every probe (70_reset_and_hazards R183). -/
  settleOrdinary : Nat
  /-- SETTLE_SHUTTER: after a shutter-sequence write. -/
  settleShutter : Nat
  /-- SETTLE_READ: after every read. -/
  settleRead : Nat
  /-- SETTLE_CTR_MAX; `none`: the counter is an unbounded natural, as R6 allows a model (log entry 6). -/
  settleCtrMax : Option Nat
  /-- TIME_UNIT, OPEN: the length of one unit. No rule depends on it (43_tick R142, log entry 20). -/
  timeUnit : Option Nat
  deriving DecidableEq, Repr

/-- The values of 00_scope R6: production behaviour, OPEN parameters without a value. -/
def Params.production : Params where
  probeEnableAll := false
  magicMicroV2 := none
  magicNano90 := none
  settleOrdinary := 10
  settleShutter := 50
  settleRead := 10
  settleCtrMax := none
  timeUnit := none

end Sys2Proof
end

