-- ==== Sys2Proof/Syntax.lean ====
section
/-! DEFINITION. What is presented to the block: the instructions (one constructor per row of spec/opcode_table.json), the
host's command bundle, the frames on the wire, the transport's answers, the host's reads, and the assembler's forms. -/

namespace Sys2Proof

/-- The settle class of a write: the WR operand `cls` (30_encoding R76) and the element `cur_cls` (10_state R32). -/
inductive SettleClass where
  /-- `cls = 0`: an ordinary write. -/
  | ordinary
  /-- `cls = 1`: a write of a shutter sequence (70_reset_and_hazards R184). -/
  | shutter
  deriving DecidableEq, Repr

/-- The instructions: the rows of spec/opcode_table.json. Every operand has its width in its type (00_scope R8), so every
term is well formed (log entry 22). -/
inductive Instr where
  /-- FRM_WR: a write frame on the wire (30_encoding R71). -/
  | frmWr (a : Addr) (v : Value)
  /-- FRM_RDREQ: a read-request frame on the wire (30_encoding R72). -/
  | frmRdreq (a : Addr)
  /-- FRM_RDRESP: a read-response frame on the wire (30_encoding R73). -/
  | frmRdresp (v : Value)
  /-- ENC_WR, sel = 000 (40_codec R90). -/
  | encWr (a : Addr) (v : Value)
  /-- ENC_RD, sel = 001 (40_codec R91). -/
  | encRd (a : Addr)
  /-- DEC_RESP, sel = 010: the four lanes, lane 0 first (40_codec R92). -/
  | decResp (r0 r1 r2 r3 : Byte)
  /-- WR, sel = 011 (41_transactions R101). -/
  | wr (cls : SettleClass) (a : Addr) (v : Value)
  /-- RD, sel = 100 (41_transactions R104). -/
  | rd (a : Addr)
  /-- DETECT, sel = 101 (42_detector R121). -/
  | detect
  /-- TICK, sel = 110: the number of time-units elapsed (43_tick R140). -/
  | tick (n : Value)
  /-- RESERVED_SEL7, sel = 111 (30_encoding R78). -/
  | reservedSel7
  /-- ATTACH, the reset input (70_reset_and_hazards R180, 30_encoding R85). -/
  | attach
  deriving DecidableEq, Repr

/-- The host command bundle: the ports presented with the `cmd_valid` strobe (30_encoding R76). -/
structure Bundle where
  /-- which command (30_encoding R77) -/
  sel : Code
  /-- WR only: 0 ORDINARY, 1 SHUTTER -/
  cls : BitVec 1
  /-- ENC_WR, ENC_RD, WR, RD: the register address -/
  addr : Addr
  /-- ENC_WR, WR: the register value; TICK: the time-units elapsed -/
  data : Value
  /-- DEC_RESP: response byte 0 -/
  lane0 : Byte
  /-- DEC_RESP: response byte 1 -/
  lane1 : Byte
  /-- DEC_RESP: response byte 2 -/
  lane2 : Byte
  /-- DEC_RESP: response byte 3 -/
  lane3 : Byte
  deriving DecidableEq, Repr

/-- Where an instruction's bits stand: on the request wires, on the response wires, on the host's command port, or on the
reset input. A response is told from a request by where it stands (30_encoding R80). -/
inductive Signal where
  /-- a frame the block sends, lane 0 first -/
  | request (f : List Byte)
  /-- the bytes that come back from a read, lane 0 first -/
  | response (r : List Byte)
  /-- the host's command port -/
  | command (b : Bundle)
  /-- the reset input -/
  | resetInput
  deriving DecidableEq, Repr

/-- BusError kinds (60_exceptions R151, codes 0 to 3). -/
inductive BusError where
  | deviceAbsent
  | nack
  | shortTransfer
  | other
  deriving DecidableEq, Repr

/-- What the transport may answer (41_transactions R112): `Ok` or `Err(k)` to a `TxWrite`, `Ok(r)` or `Err(k)` to a
`TxWriteRead`. -/
inductive Answer where
  /-- `Ok`, the answer to a write -/
  | ok
  /-- `Ok(r)`, the answer to a read, with a byte sequence of any length -/
  | okBytes (r : List Byte)
  /-- `Err(k)` -/
  | err (k : BusError)
  deriving DecidableEq, Repr

/-- What the host may read (10_state R35, R36). -/
inductive ReadReg where
  | variant
  | status
  | busy
  | ready
  | rdata
  | errCause
  | errAddr
  deriving DecidableEq, Repr

/-- What happens in one step outside the block (00_scope R5, 60_exceptions R156: one event per step). Log entry 1. -/
inductive Input where
  /-- the host presents a command bundle -/
  | command (b : Bundle)
  /-- the host drives the reset input -/
  | attach
  /-- the transport answers the outstanding request -/
  | answer (a : Answer)
  /-- the host reads a register -/
  | read (r : ReadReg)
  /-- neither the host nor the transport acts: the block takes its own step, if it has one -/
  | quiet
  deriving DecidableEq, Repr

/-- The assembler's forms (30_encoding R83), with literals of any size. `wrS` is WR with `cls = 1` (R84). -/
inductive Asm where
  | encWr (a v : Nat)
  | encRd (a : Nat)
  | decResp (b0 b1 b2 b3 : Nat)
  | wr (a v : Nat)
  | wrS (a v : Nat)
  | rd (a : Nat)
  | detect
  | tick (n : Nat)
  | attach
  deriving DecidableEq, Repr

end Sys2Proof
end

