-- ==== Sys2Proof/WellFormed.lean ====
section
/-! DEFINITION. The checks of the spec on what is presented to the block: the configuration (00_scope R7), the frames
(30_encoding R70, R80) and the assembler's literals (30_encoding R83). Instructions need none: their operands have
their widths in their types (log entry 22). -/

namespace Sys2Proof

/-- 00_scope R7: with PROBE_ENABLE_ALL both open magic values are supplied, and SETTLE_CTR_MAX is at least the largest
settle count. -/
def Params.wf (p : Params) : Bool :=
  (!p.probeEnableAll || (p.magicMicroV2.isSome && p.magicNano90.isSome)) &&
  match p.settleCtrMax with
  | none => true
  | some m => decide (p.settleOrdinary ≤ m ∧ p.settleShutter ≤ m ∧ p.settleRead ≤ m)

/-- A frame the block may send: 8 bytes after OP_WRITE or 4 bytes after OP_READ, no other (30_encoding R80). -/
def legalRequest : List Byte → Bool
  | [] => false
  | b :: rest =>
    (b == Config.opWrite && rest.length + 1 == Config.lenWriteFrame) ||
    (b == Config.opRead && rest.length + 1 == Config.lenReadFrame)

/-- A read-response frame: LEN_RESPONSE bytes, any pattern (30_encoding R73). -/
def legalResponse (r : List Byte) : Bool := r.length == Config.lenResponse

/-- A signal some instruction stands for. Every bundle is one (30_encoding R77, R78). -/
def Signal.legal : Signal → Bool
  | .request f => legalRequest f
  | .response r => legalResponse r
  | .command _ => true
  | .resetInput => true

/-- 30_encoding R83: an address fits 24 bits, a value or count 32 bits, a byte 8 bits. -/
def Asm.fits : Asm → Bool
  | .encWr a v => decide (a < 2 ^ 24 ∧ v < 2 ^ 32)
  | .encRd a => decide (a < 2 ^ 24)
  | .decResp b0 b1 b2 b3 => decide (b0 < 2 ^ 8 ∧ b1 < 2 ^ 8 ∧ b2 < 2 ^ 8 ∧ b3 < 2 ^ 8)
  | .wr a v => decide (a < 2 ^ 24 ∧ v < 2 ^ 32)
  | .wrS a v => decide (a < 2 ^ 24 ∧ v < 2 ^ 32)
  | .rd a => decide (a < 2 ^ 24)
  | .detect => true
  | .tick n => decide (n < 2 ^ 32)
  | .attach => true

end Sys2Proof
end

