-- ==== Sys2Proof/Decode.lean ====
section
/-! DEFINITION. The encodings: the codec functions that build and read frames (40_codec R90 to R92), the decoder of frames,
responses and command bundles, then the encoder, the number form of spec/opcode_table.json and the assembler. -/

namespace Sys2Proof

/-! ### The codec functions (40_codec) -/

/-- The three address bytes of a frame, most significant first (30_encoding R71, R72; 20_memory R55). -/
def addrBytes (a : Addr) : List Byte :=
  [a.extractLsb' 16 8, a.extractLsb' 8 8, a.extractLsb' 0 8]

/-- The four value bytes of a frame, most significant first (30_encoding R71, R73). -/
def valueBytes (v : Value) : List Byte :=
  [v.extractLsb' 24 8, v.extractLsb' 16 8, v.extractLsb' 8 8, v.extractLsb' 0 8]

/-- `enc_wr` (40_codec R90, 30_encoding R71). -/
def encWrFrame (a : Addr) (v : Value) : List Byte := Config.opWrite :: (addrBytes a ++ valueBytes v)

/-- `enc_rd` (40_codec R91, 30_encoding R72). -/
def encRdFrame (a : Addr) : List Byte := Config.opRead :: addrBytes a

/-- An address from its three bytes (30_encoding R75). -/
def joinAddr (b2 b1 b0 : Byte) : Addr := b2 ++ b1 ++ b0

/-- `dec_resp`: a value from its four bytes, lane 0 the most significant (40_codec R92, 30_encoding R75). -/
def joinValue (r0 r1 r2 r3 : Byte) : Value := r0 ++ r1 ++ r2 ++ r3

/-! ### Decoding -/

/-- Why bytes stand for no instruction. -/
inductive DecodeError where
  /-- a request of no bytes -/
  | emptyFrame
  /-- a first byte other than OP_WRITE and OP_READ: not defined by the source (30_encoding R80) -/
  | undefinedOpcode (b : Byte)
  /-- a frame of another length than its first byte tells (30_encoding R80) -/
  | frameLength (n : Nat)
  /-- a response of another length than LEN_RESPONSE (30_encoding R80) -/
  | responseLength (n : Nat)
  deriving DecidableEq, Repr

/-- A request frame, read by its first byte (30_encoding R80, R75). -/
def decodeRequest : List Byte → Except DecodeError Instr
  | [] => .error .emptyFrame
  | op :: rest =>
    if op = Config.opWrite then
      match rest with
      | [a2, a1, a0, v0, v1, v2, v3] => .ok (.frmWr (joinAddr a2 a1 a0) (joinValue v0 v1 v2 v3))
      | _ => .error (.frameLength (rest.length + 1))
    else if op = Config.opRead then
      match rest with
      | [a2, a1, a0] => .ok (.frmRdreq (joinAddr a2 a1 a0))
      | _ => .error (.frameLength (rest.length + 1))
    else .error (.undefinedOpcode op)

/-- A response frame: any four bytes (30_encoding R73). -/
def decodeResponse : List Byte → Except DecodeError Instr
  | [r0, r1, r2, r3] => .ok (.frmRdresp (joinValue r0 r1 r2 r3))
  | r => .error (.responseLength r.length)

/-- The `cls` port (30_encoding R76). -/
def clsOfPort (b : BitVec 1) : SettleClass := if b = 1 then .shutter else .ordinary

/-- The selector map (30_encoding R77, R78). Operand ports a command does not use are not looked at. -/
def decodeBundle (b : Bundle) : Instr :=
  if b.sel = 0b000 then .encWr b.addr b.data
  else if b.sel = 0b001 then .encRd b.addr
  else if b.sel = 0b010 then .decResp b.lane0 b.lane1 b.lane2 b.lane3
  else if b.sel = 0b011 then .wr (clsOfPort b.cls) b.addr b.data
  else if b.sel = 0b100 then .rd b.addr
  else if b.sel = 0b101 then .detect
  else if b.sel = 0b110 then .tick b.data
  else .reservedSel7

/-- The decoder: total on any signal, rejecting bytes that stand for nothing by name. -/
def decode : Signal → Except DecodeError Instr
  | .request f => decodeRequest f
  | .response r => decodeResponse r
  | .command b => .ok (decodeBundle b)
  | .resetInput => .ok .attach

/-! ### Encoding -/

/-- The `cls` port of a settle class (30_encoding R76). -/
def portOfCls : SettleClass → BitVec 1
  | .ordinary => 0
  | .shutter => 1

/-- A bundle with the given selector and zeros on every operand port. -/
def bareBundle (sel : Code) : Bundle :=
  { sel := sel, cls := 0, addr := 0, data := 0, lane0 := 0, lane1 := 0, lane2 := 0, lane3 := 0 }

/-- The signal of an instruction (30_encoding R71 to R73, R77, R85); unused ports are zero. -/
def encode : Instr → Signal
  | .frmWr a v => .request (encWrFrame a v)
  | .frmRdreq a => .request (encRdFrame a)
  | .frmRdresp v => .response (valueBytes v)
  | .encWr a v => .command { bareBundle 0b000 with addr := a, data := v }
  | .encRd a => .command { bareBundle 0b001 with addr := a }
  | .decResp r0 r1 r2 r3 => .command { bareBundle 0b010 with lane0 := r0, lane1 := r1, lane2 := r2, lane3 := r3 }
  | .wr cls a v => .command { bareBundle 0b011 with cls := portOfCls cls, addr := a, data := v }
  | .rd a => .command { bareBundle 0b100 with addr := a }
  | .detect => .command (bareBundle 0b101)
  | .tick n => .command { bareBundle 0b110 with data := n }
  | .reservedSel7 => .command (bareBundle 0b111)
  | .attach => .resetInput

/-! ### The number form of spec/opcode_table.json -/

/-- `n` bytes of a number, the most significant first (30_encoding R74: lane 0 is the most significant byte). -/
def bytesOfNat : Nat → Nat → List Byte
  | 0, _ => []
  | n + 1, w => BitVec.ofNat 8 (w >>> (8 * n)) :: bytesOfNat n w

/-- A bundle from a number. DESIGN CHOICE, log entry 10: the spec names ports, not bits of a word; here `sel` is bits 2..0,
`cls` bit 3, `addr` bits 31..8, `data` bits 63..32 and the lanes bits 95..64, lane 0 lowest. -/
def bundleOfNat (w : Nat) : Bundle where
  sel := BitVec.ofNat 3 w
  cls := BitVec.ofNat 1 (w >>> 3)
  addr := BitVec.ofNat 24 (w >>> 8)
  data := BitVec.ofNat 32 (w >>> 32)
  lane0 := BitVec.ofNat 8 (w >>> 64)
  lane1 := BitVec.ofNat 8 (w >>> 72)
  lane2 := BitVec.ofNat 8 (w >>> 80)
  lane3 := BitVec.ofNat 8 (w >>> 88)

/-- Where the table's `nbits` bits stand (30_encoding R74, R76, R85). DESIGN CHOICE, log entry 12: 64 bits are a request
frame; 32 bits are a request when they begin with OP_READ and a response otherwise (the table alone does not tell the
two apart, 30_encoding R80); no bits are the reset input; any other count is a bundle. -/
def tableSignal (nbits w : Nat) : Signal :=
  if nbits = 0 then .resetInput
  else if nbits = 64 then .request (bytesOfNat 8 w)
  else if nbits = 32 then
    if BitVec.ofNat 8 (w >>> 24) = Config.opRead then .request (bytesOfNat 4 w) else .response (bytesOfNat 4 w)
  else .command (bundleOfNat w)

/-- The instruction the decoder reads from a word numbered as spec/opcode_table.json numbers it. -/
def decodeTableWord (nbits w : Nat) : Option Instr :=
  match decode (tableSignal nbits w) with
  | .ok i => some i
  | .error _ => none

/-! ### The assembler (30_encoding R83) -/

/-- The instruction a form names, once its literals fit. -/
def Asm.instr : Asm → Instr
  | .encWr a v => .encWr (BitVec.ofNat 24 a) (BitVec.ofNat 32 v)
  | .encRd a => .encRd (BitVec.ofNat 24 a)
  | .decResp b0 b1 b2 b3 =>
    .decResp (BitVec.ofNat 8 b0) (BitVec.ofNat 8 b1) (BitVec.ofNat 8 b2) (BitVec.ofNat 8 b3)
  | .wr a v => .wr .ordinary (BitVec.ofNat 24 a) (BitVec.ofNat 32 v)
  | .wrS a v => .wr .shutter (BitVec.ofNat 24 a) (BitVec.ofNat 32 v)
  | .rd a => .rd (BitVec.ofNat 24 a)
  | .detect => .detect
  | .tick n => .tick (BitVec.ofNat 32 n)
  | .attach => .attach

/-- The signal a form assembles to; a literal that does not fit is rejected, never truncated (30_encoding R83). -/
def assemble (x : Asm) : Option Signal := if x.fits then some (encode x.instr) else none

end Sys2Proof
end

