-- ==== Sys2Proof/Machine/State.lean ====
section
/-! DEFINITION. The state of the block: every element of 10_state R20, the output ports of 30_encoding R76, and the model's
own fields (the configuration, what the other agents do, the transport's answer line). All of it is plain data. -/

namespace Sys2Proof.Machine

/-- `variant` (10_state R21), in the order of the source's list. -/
inductive Variant where
  | unknown
  | reserved
  | outdated
  | microV1
  | microV2
  | nano90
  deriving DecidableEq, Repr

/-- `fsm`, the control state (10_state R24). -/
inductive Fsm where
  /-- no transaction in flight -/
  | idle
  /-- a write frame has been sent; waiting for the answer -/
  | wrWait
  /-- a read request has been sent; waiting for the answer -/
  | rdWait
  /-- a probe has been sent; waiting for the answer -/
  | probeWait
  /-- a probe was rejected and another remains; waiting for `settle_ctr = 0` -/
  | probeSettle
  /-- a fault was recorded; no agent has a step -/
  | faulted
  deriving DecidableEq, Repr

/-- `status` (10_state R27): the result of the last completed bus command since ATTACH. -/
inductive Status where
  | none
  | ok
  | busWriteFailed
  | busReadFailed
  | noDeviceFound
  deriving DecidableEq, Repr

/-- What `err_cause` holds (10_state R28, 60_exceptions R151). -/
inductive ErrCause where
  /-- the kind the transport reported -/
  | bus (k : BusError)
  /-- a read answered `Ok` with n bytes, n not 4 -/
  | lengthMismatch (n : Nat)
  deriving DecidableEq, Repr

/-- Fault reasons (60_exceptions R155). -/
inductive FaultReason where
  /-- F_BUSY: a WR, RD or DETECT while `fsm` is not IDLE -/
  | busy
  /-- F_SETTLE: a WR, RD or DETECT while `settle_ctr > 0` -/
  | settle
  /-- F_REDETECT: a second DETECT in one attach -/
  | redetect
  /-- F_NO_VALUE: a host read of a register that holds no value -/
  | noValue
  deriving DecidableEq, Repr

/-- Refusal reasons (60_exceptions R154). -/
inductive RefusalReason where
  /-- RF_SELECTOR: a command with `sel = 111` -/
  | selector
  /-- RF_CONFIG: a configuration that fails 00_scope R7 -/
  | config
  deriving DecidableEq, Repr

/-- The kind of a request (10_state R37). -/
inductive ReqKind where
  /-- `TxWrite` -/
  | write
  /-- `TxWriteRead` -/
  | writeRead
  deriving DecidableEq, Repr

/-- A bus event of the history (10_state R37). -/
inductive BusEvent where
  /-- `Req(kind, frame, in_len)`: the block sent a frame -/
  | req (kind : ReqKind) (frame : List Byte) (inLen : Nat)
  /-- `Ans(result)`: the transport answered -/
  | ans (a : Answer)
  /-- `Attach` -/
  | attach
  deriving DecidableEq, Repr

/-- What a host read returns (10_state R36): `variant`, `status` and the cause by their codes. -/
inductive ReadValue where
  | variant (code : Code)
  | status (code : Code)
  | busy (b : Bool)
  | ready (b : Bool)
  | rdata (v : Value)
  /-- the cause code, and the length kept with LengthMismatch (60_exceptions R151) -/
  | errCause (code : Code) (n : Option Nat)
  | errAddr (a : Addr)
  deriving DecidableEq, Repr

/-- Where the machine stops (no step). Both are safe: the model stops where the spec has no step. -/
inductive Fault where
  /-- Raised by every step and every instruction in a faulted state, with the recorded reason: "no agent has a step"
  (60_exceptions R155). Safe: the spec gives no step there. Log entry 3. -/
  | quiescent (reason : Option FaultReason)
  /-- Raised by the probe sequencer when `probe_idx` names no probe of the list; no run reaches it (10_state R20 bounds
  `probe_idx`). Safe: a stop. Log entry 17. -/
  | noSuchProbe
  deriving DecidableEq, Repr

/-- What the model gives no meaning. -/
inductive Refusal where
  /-- RF_CONFIG: raised by every step and every instruction under a configuration that fails 00_scope R7 ("the model has
  no run"). Safe: a stop. Log entry 4. -/
  | config
  /-- An instruction without a meaning; no arm of `exec` raises it. Safe: a stop. -/
  | notModelled (mnemonic : String)
  deriving DecidableEq, Repr

/-- The state. `none` in `curCls`, `txFrame`, `errCause`, `errAddr` and `rdata` is the spec's own ⊥, "holds no value"
(00_scope R12, log entry 8). -/
structure State where
  /-- the configuration, written by no step (10_state R38, log entry 5); the model's own field -/
  cfg : Params
  /-- the detected variant (10_state R21, R22) -/
  variant : Variant
  /-- a DETECT has completed since the last ATTACH (10_state R23) -/
  detDone : Bool
  /-- the control state (10_state R24) -/
  fsm : Fsm
  /-- the probe in flight, or the next one to send (10_state R25) -/
  probeIdx : Nat
  /-- the time-units still to pass before the next bus command (10_state R26) -/
  settleCtr : Nat
  /-- the class of the write in flight (10_state R32) -/
  curCls : Option SettleClass
  /-- the frame of the transaction in flight, kept after completion (10_state R31) -/
  txFrame : Option (List Byte)
  /-- the result of the last completed bus command (10_state R27) -/
  status : Status
  /-- why the last WR or RD failed (10_state R28) -/
  errCause : Option ErrCause
  /-- the address of the last transaction sent (10_state R29) -/
  errAddr : Option Addr
  /-- the value of the last successful RD (10_state R30) -/
  rdata : Option Value
  /-- the fault mark (10_state R33) -/
  fault : Option FaultReason
  /-- the refusal mark (10_state R33) -/
  refused : Option RefusalReason
  /-- the bus events, oldest first (10_state R37) -/
  history : List BusEvent
  /-- the port `enc_out` (30_encoding R76); holds a value in the step that drives it only (log entry 9) -/
  encOut : Option (List Byte)
  /-- the port `dec_out` (30_encoding R76); as `encOut` -/
  decOut : Option Value
  /-- what a host read returned (10_state R36); as `encOut` -/
  readOut : Option ReadValue
  /-- what the host and the transport do, one entry a step, oldest first (log entry 1); the model's own field -/
  inputs : List Input
  /-- the transport's answer line in this step (log entry 11); the model's own field -/
  rx : Option Answer
  deriving DecidableEq, Repr

/-- The launch state: the state just after an ATTACH (70_reset_and_hazards R180; 95_test_vectors table S0), under the
parameter values of 00_scope R6, with nothing presented to the block. -/
def State.reset : State where
  cfg := Params.production
  variant := .unknown
  detDone := false
  fsm := .idle
  probeIdx := 0
  settleCtr := 0
  curCls := none
  txFrame := none
  status := .none
  errCause := none
  errAddr := none
  rdata := none
  fault := none
  refused := none
  history := [.attach]
  encOut := none
  decOut := none
  readOut := none
  inputs := []
  rx := none

/-- The launch state of a configuration: one that fails 00_scope R7 is marked refused before the first step
(60_exceptions R154, RF_CONFIG). -/
def State.launch (p : Params) : State :=
  { State.reset with cfg := p, refused := if p.wf then none else some .config }

end Sys2Proof.Machine
end

