-- ==== Sys2Proof/Machine/Operands.lean ====
section
/-! DEFINITION. The operand values the commands work with: the probe list, the settle counts, the count of a TICK, and what
a host read finds in a register. -/

namespace Sys2Proof.Machine

/-- PROBE_LIST (42_detector R120): the probes in order, each all at PROBE_ADDR. Under a configuration that enables the
further probes without their values there is no list (00_scope R7 refuses it). -/
def probeList (p : Params) : List (Variant × Value) :=
  if p.probeEnableAll then
    match p.magicMicroV2, p.magicNano90 with
    | some m2, some m3 => [(.microV1, Config.magicMicroV1), (.microV2, m2), (.nano90, m3)]
    | _, _ => []
  else [(.microV1, Config.magicMicroV1)]

/-- The settle count of a completed write (41_transactions R102, R103): SETTLE_SHUTTER when `cur_cls` is SHUTTER,
SETTLE_ORDINARY otherwise. DEDUCED for a `cur_cls` that holds no value, which no run meets (log entry 16). -/
def writeSettle (p : Params) (cls : Option SettleClass) : Nat :=
  if cls = some .shutter then p.settleShutter else p.settleOrdinary

/-- The operand of TICK as a count of time-units (43_tick R140). -/
def tickCount (n : Value) : Nat := n.toNat

/-- `busy` (10_state R35). -/
def State.busy (s : State) : Bool :=
  match s.fsm with
  | .wrWait | .rdWait | .probeWait | .probeSettle => true
  | .idle | .faulted => false

/-- `ready` (10_state R35). -/
def State.ready (s : State) : Bool := s.fsm == .idle && s.settleCtr == 0

end Sys2Proof.Machine
end

