-- ==== Sys2Proof/Machine/Flags.lean ====
section
/-! DEFINITION. The block's only condition code is `status` (10_state R27): the codes of the result registers, and the result
each transport answer gives. -/

namespace Sys2Proof.Machine

/-- The code of a variant (10_state R21). -/
def variantCode : Variant → Code
  | .unknown => 0
  | .reserved => 1
  | .outdated => 2
  | .microV1 => 3
  | .microV2 => 4
  | .nano90 => 5

/-- The code of a status (10_state R27). -/
def statusCode : Status → Code
  | .none => 0
  | .ok => 1
  | .busWriteFailed => 2
  | .busReadFailed => 3
  | .noDeviceFound => 4

/-- The code of a cause (60_exceptions R151). -/
def causeCode : ErrCause → Code
  | .bus .deviceAbsent => 0
  | .bus .nack => 1
  | .bus .shortTransfer => 2
  | .bus .other => 3
  | .lengthMismatch _ => 4

/-- The length kept with a LengthMismatch (60_exceptions R151). -/
def causeLength : ErrCause → Option Nat
  | .bus _ => none
  | .lengthMismatch n => some n

/-- The result of a WR for each answer to a `TxWrite` (41_transactions R102, R103): `status` and `err_cause`. Bytes are no
answer to a `TxWrite` (R112). -/
def writeResult : Answer → Option (Status × Option ErrCause)
  | .ok => some (.ok, none)
  | .err k => some (.busWriteFailed, some (.bus k))
  | .okBytes _ => none

/-- The result of an RD for each answer to a `TxWriteRead` (41_transactions R105, R106, R107): `status`, `err_cause` and
`rdata`. A bare `Ok` is no answer to a `TxWriteRead` (R112). -/
def readResult : Answer → Option (Status × Option ErrCause × Option Value)
  | .ok => none
  | .err k => some (.busReadFailed, some (.bus k), none)
  | .okBytes [r0, r1, r2, r3] => some (.ok, none, some (joinValue r0 r1 r2 r3))
  | .okBytes r => some (.busReadFailed, some (.lengthMismatch r.length), none)

/-- What a host read finds (10_state R35, R36); `none`: the register holds no value. -/
def readValue (s : State) : ReadReg → Option ReadValue
  | .variant => some (.variant (variantCode s.variant))
  | .status => some (.status (statusCode s.status))
  | .busy => some (.busy s.busy)
  | .ready => some (.ready s.ready)
  | .rdata => s.rdata.map .rdata
  | .errCause => s.errCause.map fun c => .errCause (causeCode c) (causeLength c)
  | .errAddr => s.errAddr.map .errAddr

end Sys2Proof.Machine
end

