-- ==== Sys2Proof/Machine/Ops.lean ====
section
/-! DEFINITION. The shared operations over the state: entering a step, taking a fault, recording a refusal, the issue check,
sending a frame, completing a transaction, attaching. The block has no memory of its own (20_memory R51). -/

namespace Sys2Proof.Machine

/-- What a step answers. -/
abbrev StepOutcome := Host.Outcome State Fault Refusal

/-- A faulted state: no agent has a step (10_state R24, R33; 60_exceptions R155). -/
def State.quiescent (s : State) : Bool := s.fsm == .faulted || s.fault.isSome

/-- Every step and every meaning begins here: no run under a configuration that fails 00_scope R7, and no step of a faulted
state (60_exceptions R156 (1)). -/
def running (s : State) (o : StepOutcome) : StepOutcome :=
  if s.cfg.wf then
    if s.quiescent then .fault (.quiescent s.fault) else o
  else .refused .config

/-- Fault entry, "raise Fault(r)" (60_exceptions R155): the mark and FAULTED, nothing else. The block has no return from
it (R158). -/
def raiseFault (r : FaultReason) (s : State) : State := { s with fault := some r, fsm := .faulted }

/-- "refuse(r)" (60_exceptions R154): the mark, and no block state. -/
def recordRefusal (r : RefusalReason) (s : State) : State := { s with refused := some r }

/-- The fault of a bus command presented too early (41_transactions R100), in the order of the check. -/
def issueFault (s : State) : Option FaultReason :=
  if s.fsm ≠ .idle then some .busy
  else if 0 < s.settleCtr then some .settle
  else none

/-- DETECT's check: the issue check, then once per attach (42_detector R127). -/
def detectFault (s : State) : Option FaultReason :=
  match issueFault s with
  | some r => some r
  | none => if s.detDone then some .redetect else none

/-- One transport call with a whole frame (20_memory R58): the frame buffer, the address, the `Req` event, and the wait. -/
def sendFrame (kind : ReqKind) (frame : List Byte) (inLen : Nat) (a : Addr) (wait : Fsm) (s : State) : State :=
  { s with
    txFrame := some frame
    errAddr := some a
    history := s.history ++ [.req kind frame inLen]
    fsm := wait }

/-- The transport's answer is taken once (41_transactions R112): the line is empty again. Alone, it is the answer that no
step takes (70_reset_and_hazards R181, log entry 14). -/
def discardAnswer (s : State) : State := { s with rx := none }

/-- The completion of a transaction (41_transactions R102 to R107, 42_detector R123, R125): the `Ans` event, the result
registers, the settle window, IDLE. -/
def completeTransaction (ans : Answer) (st : Status) (cause : Option ErrCause) (value : Option Value) (settle : Nat)
    (s : State) : State :=
  { s with
    rx := none
    history := s.history ++ [.ans ans]
    status := st
    errCause := cause
    rdata := value
    settleCtr := settle
    fsm := .idle }

/-- ATTACH (70_reset_and_hazards R180, R181): every element at its reset value, the event appended, the marks kept. An
answer on the line belongs to the abandoned request and is discarded. -/
def attachState (s : State) : State :=
  { s with
    variant := .unknown
    detDone := false
    fsm := .idle
    probeIdx := 0
    settleCtr := 0
    curCls := none
    txFrame := none
    status := .none
    errCause := none
    errAddr := none
    rdata := none
    history := s.history ++ [.attach]
    rx := none }

end Sys2Proof.Machine
end

