-- ==== Sys2Proof/Machine/Bus.lean ====
section
/-! DEFINITION. The bus commands WR and RD (41_transactions): the issue steps and the completions. -/

namespace Sys2Proof.Machine

/-- The issue of a WR that passed the check (41_transactions R101). -/
def issueWrite (cls : SettleClass) (a : Addr) (v : Value) (s : State) : State :=
  { sendFrame .write (encWrFrame a v) 0 a .wrWait s with curCls := some cls }

/-- WR (41_transactions R100, R101). -/
def execWr (cls : SettleClass) (a : Addr) (v : Value) (s : State) : StepOutcome :=
  running s
    (match issueFault s with
    | some r => .next (raiseFault r s)
    | none => .next (issueWrite cls a v s))

/-- The issue of an RD that passed the check (41_transactions R104). -/
def issueRead (a : Addr) (s : State) : State :=
  sendFrame .writeRead (encRdFrame a) Config.lenResponse a .rdWait s

/-- RD (41_transactions R100, R104). -/
def execRd (a : Addr) (s : State) : StepOutcome :=
  running s
    (match issueFault s with
    | some r => .next (raiseFault r s)
    | none => .next (issueRead a s))

/-- The completion of a WR (41_transactions R102, R103). An answer of the wrong kind is none (R112). -/
def completeWrite (ans : Answer) (s : State) : State :=
  match writeResult ans with
  | some (st, cause) => completeTransaction ans st cause none (writeSettle s.cfg s.curCls) s
  | none => discardAnswer s

/-- The completion of an RD (41_transactions R105, R106, R107). An answer of the wrong kind is none (R112). -/
def completeRead (ans : Answer) (s : State) : State :=
  match readResult ans with
  | some (st, cause, value) => completeTransaction ans st cause value s.cfg.settleRead s
  | none => discardAnswer s

end Sys2Proof.Machine
end

