-- ==== Sys2Proof/Machine/Codec.lean ====
section
/-! DEFINITION. The pure codec commands ENC_WR, ENC_RD and DEC_RESP (40_codec): accepted in every state but a faulted one,
they drive a result port and write no state. -/

namespace Sys2Proof.Machine

/-- ENC_WR (40_codec R90): `enc_out <- enc_wr(addr, data)`. -/
def execEncWr (a : Addr) (v : Value) (s : State) : StepOutcome :=
  running s (.next { s with encOut := some (encWrFrame a v) })

/-- ENC_RD (40_codec R91): `enc_out <- enc_rd(addr)`. -/
def execEncRd (a : Addr) (s : State) : StepOutcome :=
  running s (.next { s with encOut := some (encRdFrame a) })

/-- DEC_RESP (40_codec R92): `dec_out <- dec_resp(lanes)`. -/
def execDecResp (r0 r1 r2 r3 : Byte) (s : State) : StepOutcome :=
  running s (.next { s with decOut := some (joinValue r0 r1 r2 r3) })

end Sys2Proof.Machine
end

