-- ==== Sys2Proof/Machine/Control.lean ====
section
/-! DEFINITION. The reserved selector (30_encoding R78) and the reset input (70_reset_and_hazards R180). -/

namespace Sys2Proof.Machine

/-- RESERVED_SEL7 (30_encoding R78): refused with RF_SELECTOR; the run is marked, the block's state unchanged (log entry 4). -/
def execReservedSel7 (s : State) : StepOutcome :=
  running s (.next (recordRefusal .selector s))

/-- ATTACH (70_reset_and_hazards R180, R181; 30_encoding R85). -/
def execAttach (s : State) : StepOutcome :=
  running s (.next (attachState s))

end Sys2Proof.Machine
end

