-- ==== Sys2Proof/Machine/Detector.lean ====
section
/-! DEFINITION. The variant probe sequencer (42_detector): DETECT, the answers to its probes, and its internal step. -/

namespace Sys2Proof.Machine

/-- `send_probe(probe_idx)` (42_detector R121): an ordinary write of the probe's magic value to PROBE_ADDR. -/
def sendProbe (s : State) : StepOutcome :=
  match (probeList s.cfg)[s.probeIdx]? with
  | some (_, magic) =>
    .next { sendFrame .write (encWrFrame Config.probeAddr magic) 0 Config.probeAddr .probeWait s with
      curCls := some .ordinary }
  | none => .fault .noSuchProbe

/-- DETECT (41_transactions R100, 42_detector R127, R121). -/
def execDetect (s : State) : StepOutcome :=
  running s
    (match detectFault s with
    | some r => .next (raiseFault r s)
    | none => sendProbe { s with probeIdx := 0 })

/-- The first accepted probe ends the sequence with its variant (42_detector R123). -/
def probeAccepted (v : Variant) (s : State) : State :=
  { completeTransaction .ok .ok none none s.cfg.settleOrdinary s with variant := v, detDone := true }

/-- A rejected probe that is not the last (42_detector R124): the settle window, and the next index. -/
def probeRejected (k : BusError) (s : State) : State :=
  { s with
    rx := none
    history := s.history ++ [.ans (.err k)]
    settleCtr := s.cfg.settleOrdinary
    probeIdx := s.probeIdx + 1
    fsm := .probeSettle }

/-- The last probe rejected (42_detector R125): NO_DEVICE_FOUND, `variant` not written. -/
def noDevice (k : BusError) (s : State) : State :=
  { completeTransaction (.err k) .noDeviceFound none none s.cfg.settleOrdinary s with detDone := true }

/-- The answer to a probe (42_detector R122 to R125). An answer of the wrong kind is none (41_transactions R112). -/
def completeProbe (ans : Answer) (s : State) : StepOutcome :=
  match ans with
  | .ok =>
    match (probeList s.cfg)[s.probeIdx]? with
    | some (v, _) => .next (probeAccepted v s)
    | none => .fault .noSuchProbe
  | .err k =>
    if s.probeIdx + 1 < (probeList s.cfg).length then .next (probeRejected k s) else .next (noDevice k s)
  | .okBytes _ => .next (discardAnswer s)

/-- The block's own step (42_detector R126): in PROBE_SETTLE with the window over it sends the next probe; otherwise it holds
(log entry 2). -/
def internalStep (s : State) : StepOutcome :=
  running s (if s.fsm = .probeSettle ∧ s.settleCtr = 0 then sendProbe s else .next s)

end Sys2Proof.Machine
end

