-- ==== Sys2Proof/Machine/Tick.lean ====
section
/-! DEFINITION. Time passage (43_tick). -/

namespace Sys2Proof.Machine

/-- TICK (43_tick R140): the settle counter goes down by the count, saturating at 0. -/
def execTick (n : Value) (s : State) : StepOutcome :=
  running s (.next { s with settleCtr := s.settleCtr - tickCount n })

end Sys2Proof.Machine
end

