-- ==== Sys2Proof/Machine/Wire.lean ====
section
/-! DEFINITION. The frames on the wire. A request frame in flight is taken by the transport in one call (20_memory R58) and its
execution is the answer reaching the block; a response frame is the answer to a read. A frame that is not the outstanding
request has no step (41_transactions R112). Log entry 11. -/

namespace Sys2Proof.Machine

/-- FRM_WR: the transport answers the write frame in flight, a WR's (41_transactions R102, R103) or a probe's (42_detector
R122 to R125). With no answer on the line the block holds (41_transactions R110). -/
def execFrmWr (a : Addr) (v : Value) (s : State) : StepOutcome :=
  running s
    (if s.txFrame = some (encWrFrame a v) then
      match s.fsm, s.rx with
      | .wrWait, some ans => .next (completeWrite ans s)
      | .probeWait, some ans => completeProbe ans s
      | _, _ => .next (discardAnswer s)
    else .next (discardAnswer s))

/-- FRM_RDREQ: the transport answers the read request in flight (41_transactions R105, R106, R107). With no answer on the
line the block holds (41_transactions R110). -/
def execFrmRdreq (a : Addr) (s : State) : StepOutcome :=
  running s
    (if s.txFrame = some (encRdFrame a) then
      match s.fsm, s.rx with
      | .rdWait, some ans => .next (completeRead ans s)
      | _, _ => .next (discardAnswer s)
    else .next (discardAnswer s))

/-- FRM_RDRESP: four bytes that answer the outstanding read (41_transactions R105); told by context (30_encoding R80). -/
def execFrmRdresp (v : Value) (s : State) : StepOutcome :=
  running s
    (match s.fsm with
    | .rdWait => .next (completeRead (.okBytes (valueBytes v)) s)
    | _ => .next (discardAnswer s))

end Sys2Proof.Machine
end

