-- ==== Sys2Proof/Machine/Dispatch.lean ====
section
/-! DEFINITION. The dispatch: one arm per row of spec/opcode_table.json. -/

namespace Sys2Proof.Machine

def exec (i : Instr) (s : State) : Host.Outcome State Fault Refusal :=
  match i with
  | .frmWr a v => Sys2Proof.Machine.execFrmWr a v s
  | .frmRdreq a => Sys2Proof.Machine.execFrmRdreq a s
  | .frmRdresp v => Sys2Proof.Machine.execFrmRdresp v s
  | .encWr a v => Sys2Proof.Machine.execEncWr a v s
  | .encRd a => Sys2Proof.Machine.execEncRd a s
  | .decResp r0 r1 r2 r3 => Sys2Proof.Machine.execDecResp r0 r1 r2 r3 s
  | .wr cls a v => Sys2Proof.Machine.execWr cls a v s
  | .rd a => Sys2Proof.Machine.execRd a s
  | .detect => Sys2Proof.Machine.execDetect s
  | .tick n => Sys2Proof.Machine.execTick n s
  | .reservedSel7 => Sys2Proof.Machine.execReservedSel7 s
  | .attach => Sys2Proof.Machine.execAttach s

end Sys2Proof.Machine
end

