-- ==== Sys2Proof/Machine/Fetch.lean ====
section
/-! DEFINITION. What the next step is: the event that comes from outside, the instruction it stands for, and the state the
step works on. The block fetches nothing (10_state R34): its commands arrive on the host port. -/

namespace Sys2Proof.Machine

/-- The event of the next step; nothing presented is a quiet step (log entries 1 and 2). -/
def nextInput (s : State) : Input := s.inputs.headD .quiet

/-- The answer an event puts on the transport's answer line. -/
def answerOf : Input → Option Answer
  | .answer a => some a
  | .command _ | .attach | .read _ | .quiet => none

/-- The state a step works on: the event taken, its answer on the line, the output ports undriven (log entry 9). -/
def beginStep (s : State) : State :=
  { s with
    inputs := s.inputs.tail
    rx := answerOf (nextInput s)
    encOut := none
    decOut := none
    readOut := none }

/-- The instruction of the request frame in flight (30_encoding R80). -/
def requestInFlight (s : State) : Option Instr :=
  match s.txFrame with
  | some f => (decodeRequest f).toOption
  | none => none

/-- The instruction an answer stands for, told by context (30_encoding R80; 41_transactions R112): to a write, the write frame
in flight; to a read, a response frame of four bytes, or else the read request, which fails; with no request outstanding,
none. -/
def answeredInstr (s : State) (a : Answer) : Option Instr :=
  match s.fsm with
  | .wrWait | .probeWait => requestInFlight s
  | .rdWait =>
    match a with
    | .okBytes r =>
      match decodeResponse r with
      | .ok i => some i
      | .error _ => requestInFlight s
    | .ok | .err _ => requestInFlight s
  | .idle | .probeSettle | .faulted => none

/-- What a step does. -/
inductive Fetched where
  /-- it runs an instruction -/
  | instr (i : Instr)
  /-- it answers a host read -/
  | read (r : ReadReg)
  /-- the block takes its own step, or holds -/
  | internal
  /-- an answer arrives that no request is waiting for -/
  | strayAnswer
  deriving DecidableEq, Repr

/-- What the next step does. -/
def fetched (s : State) : Fetched :=
  match nextInput s with
  | .command b => .instr (decodeBundle b)
  | .attach => .instr .attach
  | .answer a =>
    match answeredInstr s a with
    | some i => .instr i
    | none => .strayAnswer
  | .read r => .read r
  | .quiet => .internal

/-- A stray answer: "no step takes it" (70_reset_and_hazards R181, log entry 14). -/
def dropStrayAnswer (s : State) : StepOutcome := running s (.next (discardAnswer s))

/-- `s` with a signal presented as the event of its next step, and the context that step needs (log entry 13): a request frame
is put in flight with an answer to it on the way, a response frame finds a read outstanding. -/
def presentSignal (s : State) : Signal → State
  | .command b => { s with inputs := .command b :: s.inputs }
  | .resetInput => { s with inputs := .attach :: s.inputs }
  | .response r => { s with fsm := .rdWait, inputs := .answer (.okBytes r) :: s.inputs }
  | .request f =>
    if f.head? = some Config.opRead then
      { s with fsm := .rdWait, txFrame := some f, inputs := .answer (.err .other) :: s.inputs }
    else { s with fsm := .wrWait, txFrame := some f, inputs := .answer .ok :: s.inputs }

/-- `s` with a word of spec/opcode_table.json presented as its next step (log entries 10, 12 and 13). -/
def presentWord (s : State) (nbits w : Nat) : State := presentSignal s (tableSignal nbits w)

end Sys2Proof.Machine
end

