-- ==== Sys2Proof/Machine/HostPort.lean ====
section
/-! DEFINITION. Host reads of the result registers (10_state R36). -/

namespace Sys2Proof.Machine

/-- A host read: the value on the read port, or F_NO_VALUE for a register that holds none (10_state R36). -/
def hostRead (r : ReadReg) (s : State) : StepOutcome :=
  running s
    (match readValue s r with
    | some v => .next { s with readOut := some v }
    | none => .next (raiseFault .noValue s))

end Sys2Proof.Machine
end

