-- ==== Sys2Proof/Machine/Step.lean ====
section
/-! DEFINITION. One step of the machine: one event, by one agent (60_exceptions R156). -/

namespace Sys2Proof.Machine

/-- One step: the event at the head of `inputs`, or a quiet step. -/
def step (s : State) : Host.Outcome State Fault Refusal :=
  match fetched s with
  | .instr i => exec i (beginStep s)
  | .read r => hostRead r (beginStep s)
  | .internal => internalStep (beginStep s)
  | .strayAnswer => dropStrayAnswer (beginStep s)

/-- `s` with a word of the opcode table where the next step takes its instruction. -/
def State.withFetchWord (s : State) (nbits w : Nat) : State := presentWord s nbits w

end Sys2Proof.Machine
end

