-- ==== Sys2Proof/Machine/Assembler.lean ====
section
/-! DEFINITION. The assembler (30_encoding R83) on a line of text, held as its characters. Log entry 24 says which details of a
line the spec leaves open. -/

namespace Sys2Proof.Machine

/-- Why a line is rejected (30_encoding R83). -/
inductive AsmError where
  /-- the first word is no form of R83 -/
  | unknownMnemonic
  /-- an operand is no decimal or 0x number -/
  | badNumber
  /-- the form takes another number of operands -/
  | operandCount
  /-- a literal does not fit its port -/
  | doesNotFit
  deriving DecidableEq, Repr

/-- A blank between the words of a line. -/
def isBlank (c : Char) : Bool := c == ' ' || c == '\t'

/-- The characters without the blanks at either end. -/
def trimBlanks (cs : List Char) : List Char := ((cs.dropWhile isBlank).reverse.dropWhile isBlank).reverse

/-- The pieces between commas. -/
def splitCommas : List Char → List (List Char)
  | [] => [[]]
  | c :: cs =>
    if c = ',' then [] :: splitCommas cs
    else
      match splitCommas cs with
      | [] => [[c]]
      | piece :: pieces => (c :: piece) :: pieces

/-- A digit's value, hexadecimal digits in either case. -/
def digitValue (c : Char) : Option Nat :=
  let n := c.toNat
  if 48 ≤ n ∧ n ≤ 57 then some (n - 48)
  else if 65 ≤ n ∧ n ≤ 70 then some (n - 55)
  else if 97 ≤ n ∧ n ≤ 102 then some (n - 87)
  else none

/-- A number in a base from its digits, after the digits read so far. -/
def readDigits (base : Nat) (acc : Nat) : List Char → Option Nat
  | [] => some acc
  | c :: cs =>
    match digitValue c with
    | some d => if d < base then readDigits base (acc * base + d) cs else none
    | none => none

/-- "Numbers are written in hexadecimal with 0x or in decimal." -/
def readNumber : List Char → Option Nat
  | [] => none
  | '0' :: 'x' :: c :: cs => readDigits 16 0 (c :: cs)
  | cs => readDigits 10 0 cs

/-- The operands of a line: none, or numbers between commas. -/
def readOperands (cs : List Char) : Option (List Nat) :=
  if (trimBlanks cs).isEmpty then some [] else (splitCommas cs).mapM fun piece => readNumber (trimBlanks piece)

/-- The form a mnemonic and its operands make. -/
def formOf (mnemonic : List Char) (ns : List Nat) : Except AsmError Asm :=
  if mnemonic = ['e', 'n', 'c', '.', 'w', 'r'] then
    match ns with | [a, v] => .ok (.encWr a v) | _ => .error .operandCount
  else if mnemonic = ['e', 'n', 'c', '.', 'r', 'd'] then
    match ns with | [a] => .ok (.encRd a) | _ => .error .operandCount
  else if mnemonic = ['d', 'e', 'c', '.', 'r', 'e', 's', 'p'] then
    match ns with | [b0, b1, b2, b3] => .ok (.decResp b0 b1 b2 b3) | _ => .error .operandCount
  else if mnemonic = ['w', 'r'] then
    match ns with | [a, v] => .ok (.wr a v) | _ => .error .operandCount
  else if mnemonic = ['w', 'r', '.', 's'] then
    match ns with | [a, v] => .ok (.wrS a v) | _ => .error .operandCount
  else if mnemonic = ['r', 'd'] then
    match ns with | [a] => .ok (.rd a) | _ => .error .operandCount
  else if mnemonic = ['d', 'e', 't', 'e', 'c', 't'] then
    match ns with | [] => .ok .detect | _ => .error .operandCount
  else if mnemonic = ['t', 'i', 'c', 'k'] then
    match ns with | [n] => .ok (.tick n) | _ => .error .operandCount
  else if mnemonic = ['a', 't', 't', 'a', 'c', 'h'] then
    match ns with | [] => .ok .attach | _ => .error .operandCount
  else .error .unknownMnemonic

/-- A line: its form, or `none` for a line that holds only blanks and a comment (";" starts a comment). -/
def readLine (line : List Char) : Except AsmError (Option Asm) :=
  let cs := trimBlanks (line.takeWhile (· ≠ ';'))
  if cs.isEmpty then .ok none
  else
    let mnemonic := cs.takeWhile (!isBlank ·)
    match readOperands (cs.dropWhile (!isBlank ·)) with
    | none => .error .badNumber
    | some ns => (formOf mnemonic ns).map some

/-- A line assembled: the signal it stands for; a literal that does not fit is rejected, never truncated. -/
def assembleLine (line : List Char) : Except AsmError (Option Signal) :=
  match readLine line with
  | .error e => .error e
  | .ok none => .ok none
  | .ok (some x) =>
    match assemble x with
    | some sig => .ok (some sig)
    | none => .error .doesNotFit

end Sys2Proof.Machine
end

