-- ==== Sys2Proof/Machine/Device.lean ====
section
/-! DEFINITION. What the bus traffic means for the sensor's register space (20_memory R50, R60; 00_scope R11), read off the
history. The block never computes it; the sensor is no agent of the model (00_scope R5, log entry 18). -/

namespace Sys2Proof.Machine

/-- An effect on the device's register space. -/
inductive DeviceEffect where
  /-- MemWrite(a, 4, v): a whole register was written; what the register does with v is not stated -/
  | memWrite (a : Addr) (v : Value)
  /-- MemRead(a, 4) gave v -/
  | memRead (a : Addr) (v : Value)
  /-- every device register is a free draw from here on -/
  | anyValue
  deriving DecidableEq, Repr

/-- The effect of an answered request (20_memory R60): a write that succeeded, a write that failed, a read, which may have
side effects in any case. -/
def answeredEffect (kind : ReqKind) (frame : List Byte) (a : Answer) : List DeviceEffect :=
  match kind, decodeRequest frame, a with
  | .write, .ok (.frmWr addr v), .ok => [.memWrite addr v]
  | .writeRead, .ok (.frmRdreq addr), .okBytes [r0, r1, r2, r3] => [.memRead addr (joinValue r0 r1 r2 r3), .anyValue]
  | _, _, _ => [.anyValue]

/-- The effects of a history after a request that is still pending, if any. A request abandoned by ATTACH leaves the device
undefined (70_reset_and_hazards R181). A request still unanswered where the history ends (a hang, 41_transactions R110, or
F_BUSY while it is in flight) may or may not have reached the device: R60 does not name this case, and a free draw of every
register is the model's choice (DESIGN CHOICE, log entry 18). -/
def deviceEffectsFrom (pending : Option (ReqKind × List Byte)) : List BusEvent → List DeviceEffect
  | [] =>
    match pending with
    | some _ => [.anyValue]
    | none => []
  | .req kind frame _ :: rest => deviceEffectsFrom (some (kind, frame)) rest
  | .ans a :: rest =>
    match pending with
    | some (kind, frame) => answeredEffect kind frame a ++ deviceEffectsFrom none rest
    | none => deviceEffectsFrom none rest
  | .attach :: rest =>
    match pending with
    | some _ => .anyValue :: deviceEffectsFrom none rest
    | none => deviceEffectsFrom none rest

/-- The effects of a whole history, oldest first. -/
def deviceEffects (h : List BusEvent) : List DeviceEffect := deviceEffectsFrom none h

end Sys2Proof.Machine
end

