-- ==== Sys2Proof/Safety.lean ====
section
/-! DEFINITION. What counts as a safe run, in the terms the statements use: the duties of the host (60_exceptions R167), the
marks of a run (10_state R33), the invariant of the block's state, and the abstract result of a DETECT. -/

namespace Sys2Proof.Machine

/-- "no fault recorded" and "no refusal recorded" (10_state R33). -/
def State.clean (s : State) : Bool := s.fault.isNone && s.refused.isNone

/-- What the host owes before it presents a command (60_exceptions R167; 30_encoding R78): WR and RD when `ready`, DETECT once
per attach when `ready`, never the reserved selector. A frame is no host command. -/
def commandDuty (s : State) : Instr → Bool
  | .wr _ _ _ | .rd _ => s.ready
  | .detect => s.ready && !s.detDone
  | .reservedSel7 => false
  | .encWr _ _ | .encRd _ | .decResp _ _ _ _ | .tick _ | .attach => true
  | .frmWr _ _ | .frmRdreq _ | .frmRdresp _ => true

/-- What the host owes before an event: its command duty, and a read of a register that holds a value. The transport owes
nothing the block can rely on (41_transactions R112). -/
def hostDuty (s : State) : Input → Bool
  | .command b => commandDuty s (decodeBundle b)
  | .read r => (readValue s r).isSome
  | .attach | .answer _ | .quiet => true

/-- A request is outstanding: the last bus event is a `Req` (10_state R37, 41_transactions R112). -/
def outstanding (h : List BusEvent) : Bool :=
  match h.getLast? with
  | some (.req _ _ _) => true
  | some (.ans _) | some .attach | none => false

/-- The block waits for the transport (10_state R24). -/
def waiting : Fsm → Bool
  | .wrWait | .rdWait | .probeWait => true
  | .idle | .probeSettle | .faulted => false

/-- A bus event the block may produce: a request is a legal frame of its kind with its `in_len` (20_memory R58, 30_encoding
R80). -/
def legalEvent : BusEvent → Bool
  | .req .write f n => legalRequest f && f.length == Config.lenWriteFrame && n == 0
  | .req .writeRead f n => legalRequest f && f.length == Config.lenReadFrame && n == Config.lenResponse
  | .ans _ => true
  | .attach => true

/-- The variants the block can hold (42_detector R130). -/
def variantReachable (p : Params) : Variant → Bool
  | .unknown | .microV1 => true
  | .microV2 | .nano90 => p.probeEnableAll
  | .reserved | .outdated => false

/-- A status that says a WR or RD failed (41_transactions R109). -/
def failedStatus : Status → Bool
  | .busWriteFailed | .busReadFailed => true
  | .none | .ok | .noDeviceFound => false

/-- The invariant of the block's state: what every step keeps. Each field names its rule. -/
structure State.Inv (s : State) : Prop where
  /-- the fault mark and FAULTED go together (60_exceptions R155) -/
  faultMark : s.fault.isSome = true ↔ s.fsm = .faulted
  /-- an answer is taken in the step it arrives (41_transactions R112) -/
  answerTaken : s.rx = none
  /-- the frame buffer holds a legal frame or none (10_state R20, 30_encoding R80) -/
  frameLegal : ∀ f, s.txFrame = some f → legalRequest f = true
  /-- the address and the frame are written together (10_state R29) -/
  addressKnown : s.errAddr.isSome = s.txFrame.isSome
  /-- in WR_WAIT the frame in flight is a write to the recorded address, of a known class (41_transactions R101) -/
  writeInFlight : s.fsm = .wrWait →
    ∃ a v, s.txFrame = some (encWrFrame a v) ∧ s.errAddr = some a ∧ s.curCls.isSome = true
  /-- in RD_WAIT it is a read request of the recorded address (41_transactions R104) -/
  readInFlight : s.fsm = .rdWait → ∃ a, s.txFrame = some (encRdFrame a) ∧ s.errAddr = some a
  /-- in PROBE_WAIT it is the frame of the probe in flight (42_detector R121) -/
  probeInFlight : s.fsm = .probeWait →
    ∃ p, (probeList s.cfg)[s.probeIdx]? = some p ∧ s.txFrame = some (encWrFrame Config.probeAddr p.2)
  /-- in PROBE_SETTLE another probe remains (42_detector R124) -/
  probeRemains : s.fsm = .probeSettle → s.probeIdx < (probeList s.cfg).length
  /-- during a DETECT none has completed, and the write in flight is an ordinary one to PROBE_ADDR (42_detector R121) -/
  probing : s.fsm = .probeWait ∨ s.fsm = .probeSettle →
    s.detDone = false ∧ s.errAddr = some Config.probeAddr ∧ s.curCls = some .ordinary
  /-- no settle window is pending while a transaction is in flight (43_tick R140) -/
  settleOver : waiting s.fsm = true → s.settleCtr = 0
  /-- the settle counter stays within SETTLE_CTR_MAX (10_state R20) -/
  settleBound : ∀ m, s.cfg.settleCtrMax = some m → s.settleCtr ≤ m
  /-- `variant` holds a reachable variant (42_detector R130) -/
  variantReach : variantReachable s.cfg s.variant = true
  /-- `variant` is Unknown until a DETECT completes (10_state R22) -/
  undetected : s.detDone = false → s.variant = .unknown
  /-- there is a cause exactly when a WR or RD failed (10_state R28, 41_transactions R109) -/
  causeKnown : s.errCause.isSome = failedStatus s.status
  /-- `rdata` holds a value only after a success (10_state R30) -/
  dataOk : s.rdata.isSome = true → s.status = .ok
  /-- every request sent is a legal frame of its kind (20_memory R58, 30_encoding R80) -/
  historyLegal : ∀ e ∈ s.history, legalEvent e = true
  /-- while the block waits, a request is outstanding (20_memory R61) -/
  waitingOutstanding : waiting s.fsm = true → outstanding s.history = true
  /-- and in IDLE and PROBE_SETTLE none is (20_memory R61) -/
  settledAnswered : s.fsm = .idle ∨ s.fsm = .probeSettle → outstanding s.history = false

/-! ### The abstract result of a DETECT (42_detector R122 to R125, R129) -/

/-- The variant of the first probe whose answer is `Ok`. -/
def firstAccepted : List (Variant × Value) → List Answer → Option Variant
  | (v, _) :: ps, a :: as => if a = .ok then some v else firstAccepted ps as
  | _, _ => none

/-- The bus events of a DETECT: each probe of the list and its answer, up to the first accepted. -/
def probeTraffic : List (Variant × Value) → List Answer → List BusEvent
  | (_, m) :: ps, a :: as =>
    .req .write (encWrFrame Config.probeAddr m) 0 :: .ans a :: (if a = .ok then [] else probeTraffic ps as)
  | _, _ => []

/-- The bundle of `tick n` (30_encoding R83). -/
def tickBundle (n : Nat) : Bundle := { bareBundle 0b110 with data := BitVec.ofNat 32 n }

/-- The events that follow a DETECT: for each probe an answer, the report of the settle window, and a quiet step for the
sequencer. -/
def probeRounds (settle : Nat) : List Answer → List Input
  | [] => []
  | a :: as => .answer a :: .command (tickBundle settle) :: .quiet :: probeRounds settle as

/-- An answer to a `TxWrite` (41_transactions R112). -/
def answersWrite : Answer → Bool
  | .ok | .err _ => true
  | .okBytes _ => false

end Sys2Proof.Machine
end

