-- ==== Sys2Proof/Certificates/Slice0/Obligations.lean ====
section
/-! DEFINITION. The statements about the model, for the provers. Each docstring names the rule of spec/ it formalises, or says
what it rests on. An equation `exec i s = .next t` with `t` written as an update of `s` is the instruction's result, its
completion and its frame at once: every field the update does not name is unchanged. -/

open Sys2Proof Sys2Proof.Machine

/-! ### Encodings -/

/-- Decode of encode of i is i, for every instruction and every operand value (30_encoding R71 to R73, R75, R77, R85). -/
def Obligations.DecodeEncodeRoundTrip : Prop :=
  ∀ i : Instr, decode (encode i) = .ok i

/-- The other direction, for the signals whose every bit is used: a request frame, a response frame and the reset input have
one instruction each. (A command bundle has unused ports, 30_encoding R77.) -/
def Obligations.FrameHasOneMeaning : Prop :=
  (∀ f i, decode (.request f) = .ok i → encode i = .request f) ∧
  (∀ r i, decode (.response r) = .ok i → encode i = .response r) ∧
  (∀ i, decode .resetInput = .ok i → encode i = .resetInput)

/-- The decoder accepts exactly the frames of 30_encoding R70, R80: OP_WRITE and 8 bytes, OP_READ and 4 bytes, a response of
4 bytes. -/
def Obligations.OnlyLegalFramesDecode : Prop :=
  (∀ f, (∃ i, decodeRequest f = .ok i) ↔
    (∃ b, f.head? = some b ∧ ((b = 0x12 ∧ f.length = 8) ∨ (b = 0x13 ∧ f.length = 4)))) ∧
  (∀ r, (∃ i, decodeResponse r = .ok i) ↔ r.length = 4)

/-- R77: "Operand ports a command does not use are ignored: their values change nothing." Each command looks at the ports of
R76's table only. -/
def Obligations.UnusedPortsIgnored : Prop :=
  ∀ b b' : Bundle, b.sel = b'.sel →
    (b.sel = 0b011 → b.cls = b'.cls) →
    (b.sel = 0b000 ∨ b.sel = 0b001 ∨ b.sel = 0b011 ∨ b.sel = 0b100 → b.addr = b'.addr) →
    (b.sel = 0b000 ∨ b.sel = 0b011 ∨ b.sel = 0b110 → b.data = b'.data) →
    (b.sel = 0b010 → b.lane0 = b'.lane0 ∧ b.lane1 = b'.lane1 ∧ b.lane2 = b'.lane2 ∧ b.lane3 = b'.lane3) →
    decodeBundle b = decodeBundle b'

/-- Words written out from the spec's encodings (30_encoding R71 to R73, R77; 95_test_vectors L1-1, ER-4, L1-2) decode to what
they stand for, in each family of the table. The place of the bundle's ports in a number is the model's (log entry 10). -/
def Obligations.SpecWordsDecode : Prop :=
  decodeTableWord 64 0x120000500452484E = some (.frmWr 0x000050 0x0452484E) ∧
  decodeTableWord 32 0x13123456 = some (.frmRdreq 0x123456) ∧
  decodeTableWord 32 0x0000012C = some (.frmRdresp 0x0000012C) ∧
  decodeTableWord 8 0b000 = some (.encWr 0 0) ∧
  decodeTableWord 8 0b010 = some (.decResp 0 0 0 0) ∧
  decodeTableWord 8 0b011 = some (.wr .ordinary 0 0) ∧
  decodeTableWord 8 0b100 = some (.rd 0) ∧
  decodeTableWord 8 0b101 = some .detect ∧
  decodeTableWord 8 0b110 = some (.tick 0) ∧
  decodeTableWord 8 0b111 = some .reservedSel7 ∧
  decodeTableWord 0 0 = some .attach

/-- The lanes of the three frames (R71, R72, R73); every four bytes are a valid response. -/
def Obligations.FrameLanes : Prop :=
  (∀ a v, encode (.frmWr a v) = .request
    [0x12, a.extractLsb' 16 8, a.extractLsb' 8 8, a.extractLsb' 0 8,
      v.extractLsb' 24 8, v.extractLsb' 16 8, v.extractLsb' 8 8, v.extractLsb' 0 8]) ∧
  (∀ a, encode (.frmRdreq a) = .request [0x13, a.extractLsb' 16 8, a.extractLsb' 8 8, a.extractLsb' 0 8]) ∧
  (∀ v, encode (.frmRdresp v) = .response
    [v.extractLsb' 24 8, v.extractLsb' 16 8, v.extractLsb' 8 8, v.extractLsb' 0 8]) ∧
  (∀ r0 r1 r2 r3, ∃ v, decode (.response [r0, r1, r2, r3]) = .ok (.frmRdresp v))

/-- The codec's laws (40_codec R93 (1) to (5)): lengths, opcodes, injectivity, equal address bytes, and `dec_resp` a bijection
that inverts the value bytes. -/
def Obligations.CodecLaws : Prop :=
  (∀ a v, (encWrFrame a v).length = 8 ∧ (encWrFrame a v).head? = some 0x12) ∧
  (∀ a, (encRdFrame a).length = 4 ∧ (encRdFrame a).head? = some 0x13) ∧
  (∀ a v a' v', encWrFrame a v = encWrFrame a' v' → a = a' ∧ v = v') ∧
  (∀ a a', encRdFrame a = encRdFrame a' → a = a') ∧
  (∀ a v, ((encWrFrame a v).drop 1).take 3 = (encRdFrame a).drop 1) ∧
  (∀ a v, decodeResponse ((encWrFrame a v).drop 4) = .ok (.frmRdresp v)) ∧
  (∀ v, ∃ r0 r1 r2 r3, joinValue r0 r1 r2 r3 = v) ∧
  (∀ r0 r1 r2 r3 q0 q1 q2 q3, joinValue r0 r1 r2 r3 = joinValue q0 q1 q2 q3 → r0 = q0 ∧ r1 = q1 ∧ r2 = q2 ∧ r3 = q3)

/-- R83: the bundle of each form, and "a literal that does not fit is rejected by the assembler". -/
def Obligations.AssemblerForms : Prop :=
  (∀ x : Asm, x.fits = false → assemble x = none) ∧
  (∀ a v, assemble (.encWr a v) =
    if a < 2 ^ 24 ∧ v < 2 ^ 32 then
      some (.command { bareBundle 0b000 with addr := BitVec.ofNat 24 a, data := BitVec.ofNat 32 v }) else none) ∧
  (∀ a, assemble (.encRd a) =
    if a < 2 ^ 24 then some (.command { bareBundle 0b001 with addr := BitVec.ofNat 24 a }) else none) ∧
  (∀ b0 b1 b2 b3, assemble (.decResp b0 b1 b2 b3) =
    if b0 < 2 ^ 8 ∧ b1 < 2 ^ 8 ∧ b2 < 2 ^ 8 ∧ b3 < 2 ^ 8 then
      some (.command { bareBundle 0b010 with
        lane0 := BitVec.ofNat 8 b0, lane1 := BitVec.ofNat 8 b1, lane2 := BitVec.ofNat 8 b2, lane3 := BitVec.ofNat 8 b3 })
    else none) ∧
  (∀ a v, assemble (.wr a v) =
    if a < 2 ^ 24 ∧ v < 2 ^ 32 then
      some (.command { bareBundle 0b011 with cls := 0, addr := BitVec.ofNat 24 a, data := BitVec.ofNat 32 v }) else none) ∧
  (∀ a v, assemble (.wrS a v) =
    if a < 2 ^ 24 ∧ v < 2 ^ 32 then
      some (.command { bareBundle 0b011 with cls := 1, addr := BitVec.ofNat 24 a, data := BitVec.ofNat 32 v }) else none) ∧
  (∀ a, assemble (.rd a) =
    if a < 2 ^ 24 then some (.command { bareBundle 0b100 with addr := BitVec.ofNat 24 a }) else none) ∧
  assemble .detect = some (.command (bareBundle 0b101)) ∧
  (∀ n, assemble (.tick n) =
    if n < 2 ^ 32 then some (.command { bareBundle 0b110 with data := BitVec.ofNat 32 n }) else none) ∧
  assemble .attach = some .resetInput

/-! ### The pure codec commands -/

/-- R90: selector 000 is ENC_WR; in every state but a faulted one ENC_WR gives the write frame on `enc_out` and changes nothing else. -/
def Obligations.EncWrResult : Prop :=
  (∀ b : Bundle, b.sel = 0b000 → decodeBundle b = .encWr b.addr b.data) ∧
  (∀ (s : State) (a : Addr) (v : Value), s.cfg.wf = true → s.quiescent = false →
      exec (.encWr a v) s = .next { s with
        encOut := some [0x12, a.extractLsb' 16 8, a.extractLsb' 8 8, a.extractLsb' 0 8,
          v.extractLsb' 24 8, v.extractLsb' 16 8, v.extractLsb' 8 8, v.extractLsb' 0 8] })

/-- R91: selector 001 is ENC_RD; it likewise gives the read-request frame. -/
def Obligations.EncRdResult : Prop :=
  (∀ b : Bundle, b.sel = 0b001 → decodeBundle b = .encRd b.addr) ∧
  (∀ (s : State) (a : Addr), s.cfg.wf = true → s.quiescent = false →
      exec (.encRd a) s = .next { s with
        encOut := some [0x13, a.extractLsb' 16 8, a.extractLsb' 8 8, a.extractLsb' 0 8] })

/-- R92: selector 010 is DEC_RESP; it likewise gives `r[0]<<24 | r[1]<<16 | r[2]<<8 | r[3]` on `dec_out`. -/
def Obligations.DecRespResult : Prop :=
  (∀ b : Bundle, b.sel = 0b010 → decodeBundle b = .decResp b.lane0 b.lane1 b.lane2 b.lane3) ∧
  (∀ (s : State) (r0 r1 r2 r3 : Byte), s.cfg.wf = true → s.quiescent = false →
      exec (.decResp r0 r1 r2 r3) s = .next { s with
        decOut := some (r0.setWidth 32 <<< 24 ||| r1.setWidth 32 <<< 16 ||| r2.setWidth 32 <<< 8 ||| r3.setWidth 32) })

/-! ### WR and RD -/

/-- R101: selector 011 is WR, `cls` 1 for SHUTTER and 0 for ORDINARY; a WR that passes the issue check sends the write frame and waits; one that does not
faults with F_BUSY or F_SETTLE (R100) and no other way. -/
def Obligations.WrIssue : Prop :=
  (∀ b : Bundle, b.sel = 0b011 →
    decodeBundle b = .wr (if b.cls = 1 then .shutter else .ordinary) b.addr b.data) ∧
  (∀ (s : State) (cls : SettleClass) (a : Addr) (v : Value),
      s.cfg.wf = true → s.fault = none → s.fsm = .idle → s.settleCtr = 0 →
      exec (.wr cls a v) s = .next { s with
        txFrame := some (encWrFrame a v)
        errAddr := some a
        curCls := some cls
        history := s.history ++ [.req .write (encWrFrame a v) 0]
        fsm := .wrWait }) ∧
  (∀ (s : State) (cls : SettleClass) (a : Addr) (v : Value), s.cfg.wf = true → s.quiescent = false →
    (s.fsm ≠ .idle → exec (.wr cls a v) s = .next { s with fault := some .busy, fsm := .faulted }) ∧
    (s.fsm = .idle → 0 < s.settleCtr → exec (.wr cls a v) s = .next { s with fault := some .settle, fsm := .faulted }))

/-- R104: selector 100 is RD; an RD that passes the issue check sends the read request with `in_len` 4 and waits;
one that does not faults with F_BUSY or F_SETTLE (R100) and no other way. -/
def Obligations.RdIssue : Prop :=
  (∀ b : Bundle, b.sel = 0b100 → decodeBundle b = .rd b.addr) ∧
  (∀ (s : State) (a : Addr),
      s.cfg.wf = true → s.fault = none → s.fsm = .idle → s.settleCtr = 0 →
      exec (.rd a) s = .next { s with
        txFrame := some (encRdFrame a)
        errAddr := some a
        history := s.history ++ [.req .writeRead (encRdFrame a) 4]
        fsm := .rdWait }) ∧
  (∀ (s : State) (a : Addr), s.cfg.wf = true → s.quiescent = false →
    (s.fsm ≠ .idle → exec (.rd a) s = .next { s with fault := some .busy, fsm := .faulted }) ∧
    (s.fsm = .idle → 0 < s.settleCtr → exec (.rd a) s = .next { s with fault := some .settle, fsm := .faulted }))

/-- R100, for each bus command: the issue check and its order. Nothing is sent, queued or dropped; a faulted state has no
step. -/
def Obligations.IssueCheckFaults : Prop :=
  ∀ (s : State) (i : Instr), (∃ cls a v, i = .wr cls a v) ∨ (∃ a, i = .rd a) ∨ i = .detect → s.cfg.wf = true →
    (s.quiescent = true → exec i s = .fault (.quiescent s.fault)) ∧
    (s.quiescent = false → s.fsm ≠ .idle → exec i s = .next { s with fault := some .busy, fsm := .faulted }) ∧
    (s.quiescent = false → s.fsm = .idle → 0 < s.settleCtr →
      exec i s = .next { s with fault := some .settle, fsm := .faulted })

/-- The effect of 41_transactions R102, the transport's `Ok` to a WR. That executing FRM_WR is this completion, and that `rx`
is emptied by it, is the model's choice (log entry 11). -/
def Obligations.WriteAnsweredOk : Prop :=
  ∀ (s : State) (a : Addr) (v : Value) (cls : SettleClass),
    s.cfg.wf = true → s.fault = none → s.fsm = .wrWait → s.txFrame = some (encWrFrame a v) → s.curCls = some cls →
    s.rx = some .ok →
    exec (.frmWr a v) s = .next { s with
      rx := none
      history := s.history ++ [.ans .ok]
      status := .ok
      errCause := none
      rdata := none
      settleCtr := if cls = .shutter then s.cfg.settleShutter else s.cfg.settleOrdinary
      fsm := .idle }

/-- The effect of 41_transactions R103, the transport's `Err(k)` to a WR, in the form of log entry 11 (the model's choice). -/
def Obligations.WriteAnsweredErr : Prop :=
  ∀ (s : State) (a : Addr) (v : Value) (cls : SettleClass) (k : BusError),
    s.cfg.wf = true → s.fault = none → s.fsm = .wrWait → s.txFrame = some (encWrFrame a v) → s.curCls = some cls →
    s.rx = some (.err k) →
    exec (.frmWr a v) s = .next { s with
      rx := none
      history := s.history ++ [.ans (.err k)]
      status := .busWriteFailed
      errCause := some (.bus k)
      rdata := none
      settleCtr := if cls = .shutter then s.cfg.settleShutter else s.cfg.settleOrdinary
      fsm := .idle }

/-- The effect of 41_transactions R105. That executing FRM_RDRESP is the answer to the outstanding read is the model's choice
(log entry 11). -/
def Obligations.ReadAnsweredValue : Prop :=
  ∀ (s : State) (v : Value),
    s.cfg.wf = true → s.fault = none → s.fsm = .rdWait →
    exec (.frmRdresp v) s = .next { s with
      rx := none
      history := s.history ++ [.ans (.okBytes
        [v.extractLsb' 24 8, v.extractLsb' 16 8, v.extractLsb' 8 8, v.extractLsb' 0 8])]
      status := .ok
      rdata := some v
      errCause := none
      settleCtr := s.cfg.settleRead
      fsm := .idle }

/-- The effect of 41_transactions R105 through the read request. R105 says nothing of FRM_RDREQ: that it completes the read
with the four bytes on the answer line is the model's choice (log entry 11), and a step runs FRM_RDRESP for such an answer. -/
def Obligations.ReadRequestAnsweredOk : Prop :=
  ∀ (s : State) (a : Addr) (r0 r1 r2 r3 : Byte),
    s.cfg.wf = true → s.fault = none → s.fsm = .rdWait → s.txFrame = some (encRdFrame a) →
    s.rx = some (.okBytes [r0, r1, r2, r3]) →
    exec (.frmRdreq a) s = .next { s with
      rx := none
      history := s.history ++ [.ans (.okBytes [r0, r1, r2, r3])]
      status := .ok
      rdata := some (r0 ++ r1 ++ r2 ++ r3)
      errCause := none
      settleCtr := s.cfg.settleRead
      fsm := .idle }

/-- The effect of 41_transactions R106: `Ok(r)` with another length than 4, shorter or longer, fails the read and no byte of r
is used. Its form, FRM_RDREQ with the answer on `rx`, is the model's choice (log entry 11). -/
def Obligations.ReadAnsweredWrongLength : Prop :=
  ∀ (s : State) (a : Addr) (r : List Byte),
    s.cfg.wf = true → s.fault = none → s.fsm = .rdWait → s.txFrame = some (encRdFrame a) →
    s.rx = some (.okBytes r) → r.length ≠ 4 →
    exec (.frmRdreq a) s = .next { s with
      rx := none
      history := s.history ++ [.ans (.okBytes r)]
      status := .busReadFailed
      rdata := none
      errCause := some (.lengthMismatch r.length)
      settleCtr := s.cfg.settleRead
      fsm := .idle }

/-- The effect of 41_transactions R107: `Err(k)` fails the read. Its form, FRM_RDREQ with the answer on `rx`, is the model's
choice (log entry 11). -/
def Obligations.ReadAnsweredErr : Prop :=
  ∀ (s : State) (a : Addr) (k : BusError),
    s.cfg.wf = true → s.fault = none → s.fsm = .rdWait → s.txFrame = some (encRdFrame a) →
    s.rx = some (.err k) →
    exec (.frmRdreq a) s = .next { s with
      rx := none
      history := s.history ++ [.ans (.err k)]
      status := .busReadFailed
      rdata := none
      errCause := some (.bus k)
      settleCtr := s.cfg.settleRead
      fsm := .idle }

/-- A frame on the wire that is not the outstanding request, or finds no answer, or finds one of the wrong kind (bytes for a
`TxWrite`, a bare `Ok` for a `TxWriteRead`), changes nothing and the block goes on waiting (41_transactions R110, R112; the
model's reading, log entries 11 and 14). Only the answer line is emptied. -/
def Obligations.UnansweredFrameHolds : Prop :=
  ∀ (s : State) (a : Addr) (v : Value), s.cfg.wf = true → s.quiescent = false →
    (s.txFrame ≠ some (encWrFrame a v) ∨ s.rx = none ∨ (∃ r, s.rx = some (.okBytes r)) ∨
        (s.fsm ≠ .wrWait ∧ s.fsm ≠ .probeWait) →
      exec (.frmWr a v) s = .next { s with rx := none }) ∧
    (s.txFrame ≠ some (encRdFrame a) ∨ s.rx = none ∨ s.rx = some .ok ∨ s.fsm ≠ .rdWait →
      exec (.frmRdreq a) s = .next { s with rx := none }) ∧
    (s.fsm ≠ .rdWait → exec (.frmRdresp v) s = .next { s with rx := none })

/-! ### DETECT and the sequencer -/

/-- R120: the probe list, all at 0x000050; it has 1 or 3 entries under a well-formed configuration. -/
def Obligations.ProbeListIsOrdered : Prop :=
  (∀ p : Params, p.probeEnableAll = false → probeList p = [(.microV1, 0x0452484E)]) ∧
  (∀ (p : Params) (m2 m3 : Value),
    p.probeEnableAll = true → p.magicMicroV2 = some m2 → p.magicNano90 = some m3 →
    probeList p = [(.microV1, 0x0452484E), (.microV2, m2), (.nano90, m3)]) ∧
  (∀ p : Params, p.wf = true → (probeList p).length = if p.probeEnableAll then 3 else 1) ∧
  Config.probeAddr = 0x000050

/-- 42_detector R121: selector 101 is DETECT; it sends the MicroV1 probe `[12 00 00 50 04 52 48 4E]` and waits (95_test_vectors DT-1). -/
def Obligations.DetectIssue : Prop :=
  (∀ b : Bundle, b.sel = 0b101 → decodeBundle b = .detect) ∧
  (∀ (s : State),
      s.cfg.wf = true → s.fault = none → s.fsm = .idle → s.settleCtr = 0 → s.detDone = false →
      exec .detect s = .next { s with
        probeIdx := 0
        txFrame := some [0x12, 0x00, 0x00, 0x50, 0x04, 0x52, 0x48, 0x4E]
        errAddr := some 0x000050
        curCls := some .ordinary
        history := s.history ++ [.req .write [0x12, 0x00, 0x00, 0x50, 0x04, 0x52, 0x48, 0x4E] 0]
        fsm := .probeWait })

/-- R127: a DETECT that passes the issue check while `det_done = 1` faults and sends nothing, and only ATTACH clears
`det_done`. -/
def Obligations.RedetectFaults : Prop :=
  (∀ s : State, s.cfg.wf = true → s.fault = none → s.fsm = .idle → s.settleCtr = 0 → s.detDone = true →
    exec .detect s = .next { s with fault := some .redetect, fsm := .faulted }) ∧
  (∀ s t : State, step s = .next t → s.detDone = true → t.detDone = false → nextInput s = .attach)

/-- The effect of 42_detector R123: the first accepted probe ends the sequence and sets the variant of its probe. That
executing FRM_WR is the answer to the probe, and that `rx` is emptied by it, is the model's choice (log entry 11). -/
def Obligations.ProbeAnsweredOk : Prop :=
  ∀ (s : State) (var : Variant) (m : Value),
    s.cfg.wf = true → s.fault = none → s.fsm = .probeWait → (probeList s.cfg)[s.probeIdx]? = some (var, m) →
    s.txFrame = some (encWrFrame 0x000050 m) → s.rx = some .ok →
    exec (.frmWr 0x000050 m) s = .next { s with
      rx := none
      history := s.history ++ [.ans .ok]
      variant := var
      detDone := true
      status := .ok
      errCause := none
      rdata := none
      settleCtr := s.cfg.settleOrdinary
      fsm := .idle }

/-- The effect of 42_detector R124: a rejected probe with another remaining starts the settle window and moves on; no result
register is written. That executing FRM_WR is the answer to the probe is the model's choice (log entry 11). -/
def Obligations.ProbeRejectedMovesOn : Prop :=
  ∀ (s : State) (m : Value) (k : BusError),
    s.cfg.wf = true → s.fault = none → s.fsm = .probeWait → s.probeIdx + 1 < (probeList s.cfg).length →
    s.txFrame = some (encWrFrame 0x000050 m) → s.rx = some (.err k) →
    exec (.frmWr 0x000050 m) s = .next { s with
      rx := none
      history := s.history ++ [.ans (.err k)]
      settleCtr := s.cfg.settleOrdinary
      probeIdx := s.probeIdx + 1
      fsm := .probeSettle }

/-- The effect of 42_detector R125: the last probe rejected is NO_DEVICE_FOUND and the variant is not written. That executing
FRM_WR is the answer to the probe is the model's choice (log entry 11). -/
def Obligations.LastProbeRejected : Prop :=
  ∀ (s : State) (m : Value) (k : BusError),
    s.cfg.wf = true → s.fault = none → s.fsm = .probeWait → s.probeIdx + 1 = (probeList s.cfg).length →
    s.txFrame = some (encWrFrame 0x000050 m) → s.rx = some (.err k) →
    exec (.frmWr 0x000050 m) s = .next { s with
      rx := none
      history := s.history ++ [.ans (.err k)]
      detDone := true
      status := .noDeviceFound
      errCause := none
      rdata := none
      settleCtr := s.cfg.settleOrdinary
      fsm := .idle }

/-- The effects of 42_detector R126: in PROBE_SETTLE the sequencer holds while `settle_ctr > 0`; TICK lifts the hold; at 0 its
internal step sends the next probe; `busy = 1` there and a bus command faults with F_BUSY. That a hold is a next state which
leaves the state, where 00_scope R12 makes it an outcome of its own, is the model's choice (log entry 2). -/
def Obligations.InterProbeSettle : Prop :=
  ∀ (s : State), s.cfg.wf = true → s.fault = none → s.fsm = .probeSettle →
    (0 < s.settleCtr → internalStep s = .next s) ∧
    (∀ var m, s.settleCtr = 0 → (probeList s.cfg)[s.probeIdx]? = some (var, m) →
      internalStep s = .next { s with
        txFrame := some (encWrFrame 0x000050 m)
        errAddr := some 0x000050
        curCls := some .ordinary
        history := s.history ++ [.req .write (encWrFrame 0x000050 m) 0]
        fsm := .probeWait }) ∧
    (∀ n : Value, s.settleCtr ≤ n.toNat → exec (.tick n) s = .next { s with settleCtr := 0 }) ∧
    s.busy = true ∧
    (∀ i, (∃ cls a v, i = .wr cls a v) ∨ (∃ a, i = .rd a) ∨ i = .detect →
      exec i s = .next { s with fault := some .busy, fsm := .faulted })

/-- R122, R129, R131, R132 for a whole DETECT: with one answer (`Ok` or `Err`) for every probe of the list and the settle
windows reported, it ends in IDLE with the variant of the first accepted probe and OK, or Unknown and NO_DEVICE_FOUND, having
sent exactly the probes up to the first accepted one. The schedule is the model's (log entry 1). It goes on after an early
acceptance: there the answers to probes never sent are steps without effect (log entry 14, DEDUCED; R112 has no such step), and
the quiet steps are holds (log entry 2, the model's choice). -/
def Obligations.DetectClassifies : Prop :=
  ∀ (s : State) (answers : List Answer) (rest : List Input),
    s.cfg.wf = true → s.cfg.settleOrdinary < 2 ^ 32 →
    s.fault = none → s.fsm = .idle → s.settleCtr = 0 → s.detDone = false → s.variant = .unknown →
    answers.length = (probeList s.cfg).length → (∀ a ∈ answers, answersWrite a = true) →
    s.inputs = .command (bareBundle 0b101) :: (probeRounds s.cfg.settleOrdinary answers ++ rest) →
    ∃ t, Sys2Proof.core.run (1 + 3 * answers.length) s = .next t ∧
      t.fsm = .idle ∧ t.detDone = true ∧ t.settleCtr = 0 ∧ t.errCause = none ∧ t.rdata = none ∧
      t.errAddr = some 0x000050 ∧ t.inputs = rest ∧
      t.history = s.history ++ probeTraffic (probeList s.cfg) answers ∧
      match firstAccepted (probeList s.cfg) answers with
      | some v => t.variant = v ∧ t.status = .ok
      | none => t.variant = .unknown ∧ t.status = .noDeviceFound

/-! ### TICK, the reserved selector, ATTACH, host reads -/

/-- R140: selector 110 is TICK; it lowers the settle counter by its count, saturating at 0, in every state but a faulted one. -/
def Obligations.TickLowersSettle : Prop :=
  (∀ b : Bundle, b.sel = 0b110 → decodeBundle b = .tick b.data) ∧
  (∀ (s : State) (n : Value), s.cfg.wf = true → s.quiescent = false →
      exec (.tick n) s = .next { s with settleCtr := if n.toNat ≤ s.settleCtr then s.settleCtr - n.toNat else 0 })

/-- R78: selector 111 is refused: the run is marked RF_SELECTOR and nothing else changes. -/
def Obligations.ReservedSelectorRefused : Prop :=
  (∀ b : Bundle, b.sel = 0b111 → decodeBundle b = .reservedSel7) ∧
  (∀ s : State, s.cfg.wf = true → s.quiescent = false →
    exec .reservedSel7 s = .next { s with refused := some .selector })

/-- R180: ATTACH, in every state but a faulted one, where it has no step; the launch state is
the state just after one (log entry 7). The answer line is the model's own (log entry 11). -/
def Obligations.AttachResets : Prop :=
  exec .attach { State.reset with history := [] } = .next State.reset ∧
  ∀ (s : State), s.cfg.wf = true →
    (s.quiescent = false →
      exec .attach s = .next { s with
        variant := .unknown, detDone := false, fsm := .idle, probeIdx := 0, settleCtr := 0, curCls := none, txFrame := none
        status := .none, errCause := none, errAddr := none, rdata := none, history := s.history ++ [.attach], rx := none }) ∧
    (s.quiescent = true → exec .attach s = .fault (.quiescent s.fault))

/-- An answer that no request is waiting for (`fsm` IDLE or PROBE_SETTLE, as after ATTACH) is discarded: its step changes
nothing but the event taken and the lines of the model (70_reset_and_hazards R181, 41_transactions R112). In particular an
ATTACH, whatever was in flight, and then the late answer (95_test_vectors AT-1). That a discarded answer is a step without
effect is log entry 14 (DEDUCED); an answer that comes after a new request was sent is taken as that request's own, log entry
15 (DEDUCED), and is not covered here. -/
def Obligations.LateAnswerDiscarded : Prop :=
  (∀ (s : State) (ans : Answer) (rest : List Input), s.cfg.wf = true → s.quiescent = false →
    s.fsm = .idle ∨ s.fsm = .probeSettle → s.inputs = .answer ans :: rest →
    step s = .next { s with inputs := rest, rx := none, encOut := none, decOut := none, readOut := none }) ∧
  (∀ (s : State) (ans : Answer) (rest : List Input), s.cfg.wf = true → s.quiescent = false →
    s.inputs = .attach :: .answer ans :: rest →
    ∃ t u, step s = .next t ∧ step t = .next u ∧
      t.history = s.history ++ [.attach] ∧ t.fsm = .idle ∧ u = { t with inputs := rest, rx := none })

/-- 10_state R36 outside a faulted state: a host read returns the register's value and changes nothing; a register that holds
no value raises F_NO_VALUE. That the value goes out by its code on the read port, and that a faulted state answers no read,
is log entry 19 (DEDUCED). StepRunsDecodedInstruction says that a read's step is `hostRead`. -/
def Obligations.HostReads : Prop :=
  ∀ (s : State), s.cfg.wf = true → s.quiescent = false →
    hostRead .variant s = .next { s with readOut := some (.variant (variantCode s.variant)) } ∧
    hostRead .status s = .next { s with readOut := some (.status (statusCode s.status)) } ∧
    hostRead .busy s = .next { s with readOut := some (.busy s.busy) } ∧
    hostRead .ready s = .next { s with readOut := some (.ready s.ready) } ∧
    (∀ v, s.rdata = some v → hostRead .rdata s = .next { s with readOut := some (.rdata v) }) ∧
    (∀ c, s.errCause = some c →
      hostRead .errCause s = .next { s with readOut := some (.errCause (causeCode c) (causeLength c)) }) ∧
    (∀ a, s.errAddr = some a → hostRead .errAddr s = .next { s with readOut := some (.errAddr a) }) ∧
    (s.rdata = none → hostRead .rdata s = .next { s with fault := some .noValue, fsm := .faulted }) ∧
    (s.errCause = none → hostRead .errCause s = .next { s with fault := some .noValue, fsm := .faulted }) ∧
    (s.errAddr = none → hostRead .errAddr s = .next { s with fault := some .noValue, fsm := .faulted })

/-- The codes of `variant`, `status` and the causes (10_state R21, R27; 60_exceptions R151), and that two values of a register
never share a code. -/
def Obligations.RegisterCodes : Prop :=
  [variantCode .unknown, variantCode .reserved, variantCode .outdated, variantCode .microV1, variantCode .microV2,
    variantCode .nano90] = [0, 1, 2, 3, 4, 5] ∧
  [statusCode .none, statusCode .ok, statusCode .busWriteFailed, statusCode .busReadFailed, statusCode .noDeviceFound]
    = [0, 1, 2, 3, 4] ∧
  (∀ n, [causeCode (.bus .deviceAbsent), causeCode (.bus .nack), causeCode (.bus .shortTransfer), causeCode (.bus .other),
    causeCode (.lengthMismatch n)] = [0, 1, 2, 3, 4]) ∧
  (∀ c c', causeCode c = causeCode c' → causeLength c = causeLength c' → c = c')

/-- R35: `busy` and `ready` are these functions of the state, and a bus command presented when `ready = 1` meets neither fault
of R100, F_BUSY and F_SETTLE. (It need not be accepted: a second DETECT faults with F_REDETECT.) -/
def Obligations.ReadyMeetsNoIssueFault : Prop :=
  (∀ s : State, s.busy = true ↔ s.fsm = .wrWait ∨ s.fsm = .rdWait ∨ s.fsm = .probeWait ∨ s.fsm = .probeSettle) ∧
  (∀ s : State, s.ready = true ↔ s.fsm = .idle ∧ s.settleCtr = 0) ∧
  (∀ (s t : State) (i : Instr), (∃ cls a v, i = .wr cls a v) ∨ (∃ a, i = .rd a) ∨ i = .detect →
    s.ready = true → s.fault = none → exec i s = .next t → t.fault ≠ some .busy ∧ t.fault ≠ some .settle)

/-! ### The step -/

/-- A step runs the decoded instruction on the state with the event taken, its answer on the answer line and the output ports
undriven (log entries 1, 9, 11): a command by its bundle, the reset input, an answer by the request it answers (30_encoding
R80). A read event is the host read and a quiet event, or none, the block's own step (log entries 1, 2, 19). Under a
well-formed configuration and outside a fault `exec` is the instruction's meaning. -/
def Obligations.StepRunsDecodedInstruction : Prop :=
  (∀ (s : State) (b : Bundle) (rest : List Input), s.inputs = .command b :: rest →
    step s = exec (decodeBundle b) { s with inputs := rest, rx := none, encOut := none, decOut := none, readOut := none }) ∧
  (∀ (s : State) (rest : List Input), s.inputs = .attach :: rest →
    step s = exec .attach { s with inputs := rest, rx := none, encOut := none, decOut := none, readOut := none }) ∧
  (∀ (s : State) (ans : Answer) (rest : List Input) (a : Addr) (v : Value), s.inputs = .answer ans :: rest →
    s.fsm = .wrWait ∨ s.fsm = .probeWait → s.txFrame = some (encWrFrame a v) →
    step s = exec (.frmWr a v)
      { s with inputs := rest, rx := some ans, encOut := none, decOut := none, readOut := none }) ∧
  (∀ (s : State) (r0 r1 r2 r3 : Byte) (rest : List Input), s.inputs = .answer (.okBytes [r0, r1, r2, r3]) :: rest →
    s.fsm = .rdWait →
    step s = exec (.frmRdresp (r0 ++ r1 ++ r2 ++ r3))
      { s with
        inputs := rest, rx := some (.okBytes [r0, r1, r2, r3]), encOut := none, decOut := none, readOut := none }) ∧
  (∀ (s : State) (ans : Answer) (rest : List Input) (a : Addr), s.inputs = .answer ans :: rest →
    s.fsm = .rdWait → s.txFrame = some (encRdFrame a) → (∀ r, ans = .okBytes r → r.length ≠ 4) →
    step s = exec (.frmRdreq a)
      { s with inputs := rest, rx := some ans, encOut := none, decOut := none, readOut := none }) ∧
  (∀ (s : State) (r : ReadReg) (rest : List Input), s.inputs = .read r :: rest →
    step s = hostRead r { s with inputs := rest, rx := none, encOut := none, decOut := none, readOut := none }) ∧
  (∀ (s : State) (rest : List Input), s.inputs = .quiet :: rest →
    step s = internalStep { s with inputs := rest, rx := none, encOut := none, decOut := none, readOut := none }) ∧
  (∀ s : State, s.inputs = [] →
    step s = internalStep { s with rx := none, encOut := none, decOut := none, readOut := none })

/-- 00_scope R7 (and 95_test_vectors DT-7): which configurations are well formed, and that nothing runs under another. -/
def Obligations.ConfigurationRefused : Prop :=
  (∀ p : Params, p.wf = true ↔
    (p.probeEnableAll = false ∨ (∃ m2 m3, p.magicMicroV2 = some m2 ∧ p.magicNano90 = some m3)) ∧
    (∀ m, p.settleCtrMax = some m → p.settleOrdinary ≤ m ∧ p.settleShutter ≤ m ∧ p.settleRead ≤ m)) ∧
  (∀ s : State, s.cfg.wf = false → step s = .refused .config ∧ ∀ i, exec i s = .refused .config) ∧
  (∀ p : Params, p.wf = false → (State.launch p).refused = some .config)

/-- "A faulted state is quiescent: no agent has a step, ATTACH included" (60_exceptions R155), for every event and every
instruction. -/
def Obligations.FaultedHasNoStep : Prop :=
  ∀ s : State, s.cfg.wf = true → s.quiescent = true →
    step s = .fault (.quiescent s.fault) ∧ ∀ i, exec i s = .fault (.quiescent s.fault)

/-- R33: once set, neither mark is cleared by any step, ATTACH included, and a state whose fault is set has no step. -/
def Obligations.MarksAreSticky : Prop :=
  ∀ s : State,
    (∀ t, step s = .next t → s.refused.isSome = true → t.refused.isSome = true) ∧
    (s.fault.isSome = true → ∀ t, step s ≠ .next t)

/-- R155: a step that sets the fault mark changes nothing but the mark and `fsm` (beside the event taken), for one of the four
reasons, each under its condition. -/
def Obligations.FaultEntryIsPrecise : Prop :=
  ∀ (s t : State) (r : FaultReason), s.fault = none → step s = .next t → t.fault = some r →
    t = { beginStep s with fault := some r, fsm := .faulted } ∧
    (r = .busy → s.fsm ≠ .idle ∧ ∃ b, nextInput s = .command b ∧ (b.sel = 0b011 ∨ b.sel = 0b100 ∨ b.sel = 0b101)) ∧
    (r = .settle → s.fsm = .idle ∧ 0 < s.settleCtr ∧
      ∃ b, nextInput s = .command b ∧ (b.sel = 0b011 ∨ b.sel = 0b100 ∨ b.sel = 0b101)) ∧
    (r = .redetect → s.fsm = .idle ∧ s.settleCtr = 0 ∧ s.detDone = true ∧
      ∃ b, nextInput s = .command b ∧ b.sel = 0b101) ∧
    (r = .noValue →
      (nextInput s = .read .rdata ∧ s.rdata = none) ∨ (nextInput s = .read .errCause ∧ s.errCause = none) ∨
      (nextInput s = .read .errAddr ∧ s.errAddr = none))

/-- 10_state R22, in every state: `variant` changes only at the answer that completes a DETECT, to the variant of the accepted
probe, or at ATTACH, to Unknown. -/
def Obligations.VariantChangesOnlyByDetectOrAttach : Prop :=
  ∀ s t : State, step s = .next t → t.variant ≠ s.variant →
    (nextInput s = .attach ∧ t.variant = .unknown) ∨
    (nextInput s = .answer .ok ∧ s.fsm = .probeWait ∧ t.detDone = true ∧ t.status = .ok ∧
      ∃ p, (probeList s.cfg)[s.probeIdx]? = some p ∧ t.variant = p.1)

/-- The result registers are written by completions and ATTACH alone: no command, read or quiet step writes `status`,
`err_cause`, `rdata`, `variant` or `det_done` (10_state R23, R27, R28, R30). -/
def Obligations.OnlyCompletionsWriteResults : Prop :=
  ∀ s t : State, step s = .next t → nextInput s ≠ .attach → (∀ a, nextInput s ≠ .answer a) →
    t.status = s.status ∧ t.errCause = s.errCause ∧ t.rdata = s.rdata ∧ t.variant = s.variant ∧ t.detDone = s.detDone

/-- The history only grows, by at most one event a step, and a frame is sent only in the issue step of WR, RD or DETECT or in
the sequencer's internal step (10_state R37, 41_transactions R108, 95_test_vectors L1-7). -/
def Obligations.OnlyIssueStepsSend : Prop :=
  ∀ s t : State, step s = .next t →
    t.history = s.history ∨
    (t.history = s.history ++ [.attach] ∧ nextInput s = .attach) ∨
    (∃ a, t.history = s.history ++ [.ans a] ∧ nextInput s = .answer a ∧ waiting s.fsm = true) ∨
    (∃ k f n, t.history = s.history ++ [.req k f n] ∧ legalEvent (.req k f n) = true ∧ t.txFrame = some f ∧
      ((s.fsm = .idle ∧ s.settleCtr = 0 ∧
          ∃ b, nextInput s = .command b ∧ (b.sel = 0b011 ∨ b.sel = 0b100 ∨ b.sel = 0b101)) ∨
        (s.fsm = .probeSettle ∧ s.settleCtr = 0 ∧ nextInput s = .quiet)))

/-- R109, on every answer a WR or RD in flight may get (R112): `Err(k)`, or a response of another length than 4, leaves the
failed status of that command and the cause; `Ok`, or four bytes, leaves OK and no cause. -/
def Obligations.NoFailureSwallowed : Prop :=
  ∀ (s : State) (ans : Answer) (rest : List Input), s.Inv → s.cfg.wf = true → s.inputs = .answer ans :: rest →
    (s.fsm = .wrWait →
      (ans = .ok → ∃ t, step s = .next t ∧ t.fsm = .idle ∧ t.errAddr = s.errAddr ∧
        t.status = .ok ∧ t.errCause = none ∧ t.rdata = none) ∧
      (∀ k, ans = .err k → ∃ t, step s = .next t ∧ t.fsm = .idle ∧ t.errAddr = s.errAddr ∧
        t.status = .busWriteFailed ∧ t.errCause = some (.bus k) ∧ t.rdata = none)) ∧
    (s.fsm = .rdWait →
      (∀ r, ans = .okBytes r → r.length = 4 → ∃ t, step s = .next t ∧ t.fsm = .idle ∧ t.errAddr = s.errAddr ∧
        t.status = .ok ∧ t.errCause = none ∧ t.rdata.isSome = true) ∧
      (∀ r, ans = .okBytes r → r.length ≠ 4 → ∃ t, step s = .next t ∧ t.fsm = .idle ∧ t.errAddr = s.errAddr ∧
        t.status = .busReadFailed ∧ t.errCause = some (.lengthMismatch r.length) ∧ t.rdata = none) ∧
      (∀ k, ans = .err k → ∃ t, step s = .next t ∧ t.fsm = .idle ∧ t.errAddr = s.errAddr ∧
        t.status = .busReadFailed ∧ t.errCause = some (.bus k) ∧ t.rdata = none))

/-- 41_transactions R110: while the block waits for the transport, only an answer or ATTACH ends the hold; every other step
keeps the wait or records a fault. -/
def Obligations.WaitEndsOnlyByAnswerOrAttach : Prop :=
  ∀ s t : State, waiting s.fsm = true → step s = .next t →
    nextInput s ≠ .attach → (∀ a, nextInput s ≠ .answer a) → t.fsm = s.fsm ∨ t.fsm = .faulted

/-- R111: WR and RD do not read `variant` or `det_done`: changing both beforehand changes nothing else afterwards. -/
def Obligations.WrRdIgnoreVariant : Prop :=
  ∀ (s t : State) (var : Variant) (d : Bool) (i : Instr), (∃ cls a v, i = .wr cls a v) ∨ (∃ a, i = .rd a) →
    exec i s = .next t → exec i { s with variant := var, detDone := d } = .next { t with variant := var, detDone := d }

/-- R66: the frame a WR or RD sends is a function of its operands alone. -/
def Obligations.FramesDependOnOperands : Prop :=
  ∀ (s s' t t' : State), t.fault = none → t'.fault = none →
    (∀ cls cls' a v, exec (.wr cls a v) s = .next t → exec (.wr cls' a v) s' = .next t' → t.txFrame = t'.txFrame) ∧
    (∀ a, exec (.rd a) s = .next t → exec (.rd a) s' = .next t' → t.txFrame = t'.txFrame)

/-- R142: no rule depends on the value of TIME_UNIT: a step with another value does the same. -/
def Obligations.TimeUnitIsNeverRead : Prop :=
  ∀ (s : State) (u : Option Nat),
    step { s with cfg := { s.cfg with timeUnit := u } } =
      match step s with
      | .next t => .next { t with cfg := { t.cfg with timeUnit := u } }
      | .fault r => .fault r
      | .refused r => .refused r

/-- 10_state R38: no step writes the configuration. -/
def Obligations.ConfigurationIsFixed : Prop :=
  ∀ s t : State, step s = .next t → t.cfg = s.cfg

/-- What the block's traffic means for the device (20_memory R60; 70_reset_and_hazards R181), after any history with no
request outstanding: an accepted write is one MemWrite, an answered read one MemRead that may have side effects, and a
request that fails (`Err`, or a response of another length), that ATTACH abandons, or that is still unanswered leaves every
register a free draw. The reading off the history, and the free draw after an abandoned read and after an unanswered request,
are the model's (log entry 18). -/
def Obligations.DeviceEffectsOfTransactions : Prop :=
  ∀ (h : List BusEvent) (a : Addr), outstanding h = false →
    (∀ v, deviceEffects (h ++ [.req .write (encWrFrame a v) 0, .ans .ok]) = deviceEffects h ++ [.memWrite a v]) ∧
    (∀ v k, deviceEffects (h ++ [.req .write (encWrFrame a v) 0, .ans (.err k)]) = deviceEffects h ++ [.anyValue]) ∧
    (∀ v, deviceEffects (h ++ [.req .write (encWrFrame a v) 0, .attach]) = deviceEffects h ++ [.anyValue]) ∧
    (∀ v, deviceEffects (h ++ [.req .write (encWrFrame a v) 0]) = deviceEffects h ++ [.anyValue]) ∧
    (∀ r0 r1 r2 r3, deviceEffects (h ++ [.req .writeRead (encRdFrame a) 4, .ans (.okBytes [r0, r1, r2, r3])]) =
      deviceEffects h ++ [.memRead a (r0 ++ r1 ++ r2 ++ r3), .anyValue]) ∧
    (∀ r, r.length ≠ 4 → deviceEffects (h ++ [.req .writeRead (encRdFrame a) 4, .ans (.okBytes r)]) =
      deviceEffects h ++ [.anyValue]) ∧
    (∀ k, deviceEffects (h ++ [.req .writeRead (encRdFrame a) 4, .ans (.err k)]) = deviceEffects h ++ [.anyValue]) ∧
    deviceEffects (h ++ [.req .writeRead (encRdFrame a) 4, .attach]) = deviceEffects h ++ [.anyValue] ∧
    deviceEffects (h ++ [.req .writeRead (encRdFrame a) 4]) = deviceEffects h ++ [.anyValue]

/-! ### Reset, the invariant, and the safe run -/

/-- R20, R180 and table S0 of 95_test_vectors: the launch state. The parameter values are those of 00_scope R6; `inputs`, `rx`
and the output ports are the model's (log entries 1, 9, 11). -/
def Obligations.ResetState : Prop :=
  State.reset.variant = .unknown ∧ State.reset.detDone = false ∧ State.reset.fsm = .idle ∧ State.reset.probeIdx = 0 ∧
  State.reset.settleCtr = 0 ∧ State.reset.curCls = none ∧ State.reset.txFrame = none ∧ State.reset.status = .none ∧
  State.reset.errCause = none ∧ State.reset.errAddr = none ∧ State.reset.rdata = none ∧ State.reset.fault = none ∧
  State.reset.refused = none ∧ State.reset.history = [.attach] ∧
  State.reset.cfg.settleOrdinary = 10 ∧ State.reset.cfg.settleShutter = 50 ∧ State.reset.cfg.settleRead = 10 ∧
  State.reset.cfg.probeEnableAll = false ∧ State.reset.cfg.magicMicroV2 = none ∧ State.reset.cfg.magicNano90 = none

/-- The invariant holds in the launch state of every configuration, whatever is presented afterwards. -/
def Obligations.LaunchMeetsInvariant : Prop :=
  State.reset.Inv ∧ ∀ (p : Params) (xs : List Input), State.Inv { State.launch p with inputs := xs }

/-- Every step keeps the invariant, from every state that meets it (the rules each of its fields names). -/
def Obligations.StepKeepsInvariant : Prop :=
  ∀ s t : State, s.Inv → step s = .next t → t.Inv

/-- R130: after any steps from ATTACH, under any configuration and any events, `variant` is one of the reachable ones. -/
def Obligations.ReachableVariants : Prop :=
  ∀ (p : Params) (xs : List Input) (k : Nat) (t : State),
    Sys2Proof.core.run k { State.launch p with inputs := xs } = .next t →
    (p.probeEnableAll = false → t.variant = .unknown ∨ t.variant = .microV1) ∧
    (p.probeEnableAll = true →
      t.variant = .unknown ∨ t.variant = .microV1 ∨ t.variant = .microV2 ∨ t.variant = .nano90)

/-- A host that keeps its duties (60_exceptions R167) meets no fault and no refusal, whatever the transport answers: every step
has a next state, clean again (10_state R35). Its quiet steps that hold are next states by log entry 2, and its stray answers
by log entry 14. -/
def Obligations.DutifulHostStaysClean : Prop :=
  ∀ s : State, s.Inv → s.cfg.wf = true → s.clean = true → hostDuty s (nextInput s) = true →
    ∃ t, step s = .next t ∧ t.clean = true

/-- 43_tick R141 and 70_reset_and_hazards R183: once TICKs add up to the pending window, an idle block is ready, and not
before. -/
def Obligations.TicksOpenTheWindow : Prop :=
  ∀ (s : State) (ns : List Value) (rest : List Input),
    s.cfg.wf = true → s.fault = none → s.fsm = .idle →
    s.inputs = (ns.map fun n => .command { bareBundle 0b110 with data := n }) ++ rest →
    ∃ t, Sys2Proof.core.run ns.length s = .next t ∧
      t.settleCtr = s.settleCtr - (ns.map BitVec.toNat).sum ∧
      (t.ready = true ↔ s.settleCtr ≤ (ns.map BitVec.toNat).sum)
end

