-- ==== Sys2Proof/Laws/Device.lean ====
section
/-! SUPPORT. What the device effects of a history are made of: the effects of a settled beginning, then those of the rest. -/

namespace Sys2Proof.Machine

/-- The effects of a history after a request `p`, cut where no request is outstanding. -/
theorem deviceEffectsFrom_append (h tail : List BusEvent) (p : Option (ReqKind × List Byte))
    (settled : if h = [] then p = none else outstanding h = false) :
    deviceEffectsFrom p (h ++ tail) = deviceEffectsFrom p h ++ deviceEffectsFrom none tail := by
  induction h generalizing p with
  | nil => simp at settled; simp [settled, deviceEffectsFrom]
  | cons e es ih =>
    have rest : ∀ q, (es = [] → q = none) →
        deviceEffectsFrom q (es ++ tail) = deviceEffectsFrom q es ++ deviceEffectsFrom none tail := by
      intro q hq
      apply ih
      cases es with
      | nil => simpa using hq rfl
      | cons x xs => simpa [outstanding] using settled
    cases e with
    | req k f n =>
      have : es ≠ [] := by rintro rfl; simp [outstanding] at settled
      simp [deviceEffectsFrom, rest _ (fun h => absurd h this)]
    | ans a => cases p <;> simp [deviceEffectsFrom, rest none]
    | attach => cases p <;> simp [deviceEffectsFrom, rest none]

/-- A response of another length than 4 is no MemRead: every register is a free draw (20_memory R60, 93_implementation_defined
I3). -/
theorem answeredEffect_wrongLength (f r : List Byte) (hl : r.length ≠ 4) :
    answeredEffect .writeRead f (.okBytes r) = [.anyValue] := by
  unfold answeredEffect
  split <;> simp_all

end Sys2Proof.Machine
end

