-- ==== Sys2Proof/Laws/State.lean ====
section
/-! SUPPORT. What each state update does to each field: one lemma a field, true by definition, so that no proof unfolds a
record update. -/

namespace Sys2Proof.Machine

section raiseFault_fields
variable (r : FaultReason) (s : State)

@[simp] theorem raiseFault_cfg : (raiseFault r s).cfg = s.cfg := rfl
@[simp] theorem raiseFault_variant : (raiseFault r s).variant = s.variant := rfl
@[simp] theorem raiseFault_detDone : (raiseFault r s).detDone = s.detDone := rfl
@[simp] theorem raiseFault_fsm : (raiseFault r s).fsm = .faulted := rfl
@[simp] theorem raiseFault_probeIdx : (raiseFault r s).probeIdx = s.probeIdx := rfl
@[simp] theorem raiseFault_settleCtr : (raiseFault r s).settleCtr = s.settleCtr := rfl
@[simp] theorem raiseFault_curCls : (raiseFault r s).curCls = s.curCls := rfl
@[simp] theorem raiseFault_txFrame : (raiseFault r s).txFrame = s.txFrame := rfl
@[simp] theorem raiseFault_status : (raiseFault r s).status = s.status := rfl
@[simp] theorem raiseFault_errCause : (raiseFault r s).errCause = s.errCause := rfl
@[simp] theorem raiseFault_errAddr : (raiseFault r s).errAddr = s.errAddr := rfl
@[simp] theorem raiseFault_rdata : (raiseFault r s).rdata = s.rdata := rfl
@[simp] theorem raiseFault_fault : (raiseFault r s).fault = some r := rfl
@[simp] theorem raiseFault_refused : (raiseFault r s).refused = s.refused := rfl
@[simp] theorem raiseFault_history : (raiseFault r s).history = s.history := rfl
@[simp] theorem raiseFault_encOut : (raiseFault r s).encOut = s.encOut := rfl
@[simp] theorem raiseFault_decOut : (raiseFault r s).decOut = s.decOut := rfl
@[simp] theorem raiseFault_readOut : (raiseFault r s).readOut = s.readOut := rfl
@[simp] theorem raiseFault_inputs : (raiseFault r s).inputs = s.inputs := rfl
@[simp] theorem raiseFault_rx : (raiseFault r s).rx = s.rx := rfl

end raiseFault_fields

section recordRefusal_fields
variable (r : RefusalReason) (s : State)

@[simp] theorem recordRefusal_cfg : (recordRefusal r s).cfg = s.cfg := rfl
@[simp] theorem recordRefusal_variant : (recordRefusal r s).variant = s.variant := rfl
@[simp] theorem recordRefusal_detDone : (recordRefusal r s).detDone = s.detDone := rfl
@[simp] theorem recordRefusal_fsm : (recordRefusal r s).fsm = s.fsm := rfl
@[simp] theorem recordRefusal_probeIdx : (recordRefusal r s).probeIdx = s.probeIdx := rfl
@[simp] theorem recordRefusal_settleCtr : (recordRefusal r s).settleCtr = s.settleCtr := rfl
@[simp] theorem recordRefusal_curCls : (recordRefusal r s).curCls = s.curCls := rfl
@[simp] theorem recordRefusal_txFrame : (recordRefusal r s).txFrame = s.txFrame := rfl
@[simp] theorem recordRefusal_status : (recordRefusal r s).status = s.status := rfl
@[simp] theorem recordRefusal_errCause : (recordRefusal r s).errCause = s.errCause := rfl
@[simp] theorem recordRefusal_errAddr : (recordRefusal r s).errAddr = s.errAddr := rfl
@[simp] theorem recordRefusal_rdata : (recordRefusal r s).rdata = s.rdata := rfl
@[simp] theorem recordRefusal_fault : (recordRefusal r s).fault = s.fault := rfl
@[simp] theorem recordRefusal_refused : (recordRefusal r s).refused = some r := rfl
@[simp] theorem recordRefusal_history : (recordRefusal r s).history = s.history := rfl
@[simp] theorem recordRefusal_encOut : (recordRefusal r s).encOut = s.encOut := rfl
@[simp] theorem recordRefusal_decOut : (recordRefusal r s).decOut = s.decOut := rfl
@[simp] theorem recordRefusal_readOut : (recordRefusal r s).readOut = s.readOut := rfl
@[simp] theorem recordRefusal_inputs : (recordRefusal r s).inputs = s.inputs := rfl
@[simp] theorem recordRefusal_rx : (recordRefusal r s).rx = s.rx := rfl

end recordRefusal_fields

section sendFrame_fields
variable (k : ReqKind) (f : List Byte) (n : Nat) (a : Addr) (w : Fsm) (s : State)

@[simp] theorem sendFrame_cfg : (sendFrame k f n a w s).cfg = s.cfg := rfl
@[simp] theorem sendFrame_variant : (sendFrame k f n a w s).variant = s.variant := rfl
@[simp] theorem sendFrame_detDone : (sendFrame k f n a w s).detDone = s.detDone := rfl
@[simp] theorem sendFrame_fsm : (sendFrame k f n a w s).fsm = w := rfl
@[simp] theorem sendFrame_probeIdx : (sendFrame k f n a w s).probeIdx = s.probeIdx := rfl
@[simp] theorem sendFrame_settleCtr : (sendFrame k f n a w s).settleCtr = s.settleCtr := rfl
@[simp] theorem sendFrame_curCls : (sendFrame k f n a w s).curCls = s.curCls := rfl
@[simp] theorem sendFrame_txFrame : (sendFrame k f n a w s).txFrame = some f := rfl
@[simp] theorem sendFrame_status : (sendFrame k f n a w s).status = s.status := rfl
@[simp] theorem sendFrame_errCause : (sendFrame k f n a w s).errCause = s.errCause := rfl
@[simp] theorem sendFrame_errAddr : (sendFrame k f n a w s).errAddr = some a := rfl
@[simp] theorem sendFrame_rdata : (sendFrame k f n a w s).rdata = s.rdata := rfl
@[simp] theorem sendFrame_fault : (sendFrame k f n a w s).fault = s.fault := rfl
@[simp] theorem sendFrame_refused : (sendFrame k f n a w s).refused = s.refused := rfl
@[simp] theorem sendFrame_history : (sendFrame k f n a w s).history = s.history ++ [.req k f n] := rfl
@[simp] theorem sendFrame_encOut : (sendFrame k f n a w s).encOut = s.encOut := rfl
@[simp] theorem sendFrame_decOut : (sendFrame k f n a w s).decOut = s.decOut := rfl
@[simp] theorem sendFrame_readOut : (sendFrame k f n a w s).readOut = s.readOut := rfl
@[simp] theorem sendFrame_inputs : (sendFrame k f n a w s).inputs = s.inputs := rfl
@[simp] theorem sendFrame_rx : (sendFrame k f n a w s).rx = s.rx := rfl

end sendFrame_fields

section discardAnswer_fields
variable (s : State)

@[simp] theorem discardAnswer_cfg : (discardAnswer s).cfg = s.cfg := rfl
@[simp] theorem discardAnswer_variant : (discardAnswer s).variant = s.variant := rfl
@[simp] theorem discardAnswer_detDone : (discardAnswer s).detDone = s.detDone := rfl
@[simp] theorem discardAnswer_fsm : (discardAnswer s).fsm = s.fsm := rfl
@[simp] theorem discardAnswer_probeIdx : (discardAnswer s).probeIdx = s.probeIdx := rfl
@[simp] theorem discardAnswer_settleCtr : (discardAnswer s).settleCtr = s.settleCtr := rfl
@[simp] theorem discardAnswer_curCls : (discardAnswer s).curCls = s.curCls := rfl
@[simp] theorem discardAnswer_txFrame : (discardAnswer s).txFrame = s.txFrame := rfl
@[simp] theorem discardAnswer_status : (discardAnswer s).status = s.status := rfl
@[simp] theorem discardAnswer_errCause : (discardAnswer s).errCause = s.errCause := rfl
@[simp] theorem discardAnswer_errAddr : (discardAnswer s).errAddr = s.errAddr := rfl
@[simp] theorem discardAnswer_rdata : (discardAnswer s).rdata = s.rdata := rfl
@[simp] theorem discardAnswer_fault : (discardAnswer s).fault = s.fault := rfl
@[simp] theorem discardAnswer_refused : (discardAnswer s).refused = s.refused := rfl
@[simp] theorem discardAnswer_history : (discardAnswer s).history = s.history := rfl
@[simp] theorem discardAnswer_encOut : (discardAnswer s).encOut = s.encOut := rfl
@[simp] theorem discardAnswer_decOut : (discardAnswer s).decOut = s.decOut := rfl
@[simp] theorem discardAnswer_readOut : (discardAnswer s).readOut = s.readOut := rfl
@[simp] theorem discardAnswer_inputs : (discardAnswer s).inputs = s.inputs := rfl
@[simp] theorem discardAnswer_rx : (discardAnswer s).rx = none := rfl

end discardAnswer_fields

section completeTransaction_fields
variable (ans : Answer) (st : Status) (c : Option ErrCause) (v : Option Value) (n : Nat) (s : State)

@[simp] theorem completeTransaction_cfg : (completeTransaction ans st c v n s).cfg = s.cfg := rfl
@[simp] theorem completeTransaction_variant : (completeTransaction ans st c v n s).variant = s.variant := rfl
@[simp] theorem completeTransaction_detDone : (completeTransaction ans st c v n s).detDone = s.detDone := rfl
@[simp] theorem completeTransaction_fsm : (completeTransaction ans st c v n s).fsm = .idle := rfl
@[simp] theorem completeTransaction_probeIdx : (completeTransaction ans st c v n s).probeIdx = s.probeIdx := rfl
@[simp] theorem completeTransaction_settleCtr : (completeTransaction ans st c v n s).settleCtr = n := rfl
@[simp] theorem completeTransaction_curCls : (completeTransaction ans st c v n s).curCls = s.curCls := rfl
@[simp] theorem completeTransaction_txFrame : (completeTransaction ans st c v n s).txFrame = s.txFrame := rfl
@[simp] theorem completeTransaction_status : (completeTransaction ans st c v n s).status = st := rfl
@[simp] theorem completeTransaction_errCause : (completeTransaction ans st c v n s).errCause = c := rfl
@[simp] theorem completeTransaction_errAddr : (completeTransaction ans st c v n s).errAddr = s.errAddr := rfl
@[simp] theorem completeTransaction_rdata : (completeTransaction ans st c v n s).rdata = v := rfl
@[simp] theorem completeTransaction_fault : (completeTransaction ans st c v n s).fault = s.fault := rfl
@[simp] theorem completeTransaction_refused : (completeTransaction ans st c v n s).refused = s.refused := rfl
@[simp] theorem completeTransaction_history : (completeTransaction ans st c v n s).history = s.history ++ [.ans ans] := rfl
@[simp] theorem completeTransaction_encOut : (completeTransaction ans st c v n s).encOut = s.encOut := rfl
@[simp] theorem completeTransaction_decOut : (completeTransaction ans st c v n s).decOut = s.decOut := rfl
@[simp] theorem completeTransaction_readOut : (completeTransaction ans st c v n s).readOut = s.readOut := rfl
@[simp] theorem completeTransaction_inputs : (completeTransaction ans st c v n s).inputs = s.inputs := rfl
@[simp] theorem completeTransaction_rx : (completeTransaction ans st c v n s).rx = none := rfl

end completeTransaction_fields

section attachState_fields
variable (s : State)

@[simp] theorem attachState_cfg : (attachState s).cfg = s.cfg := rfl
@[simp] theorem attachState_variant : (attachState s).variant = .unknown := rfl
@[simp] theorem attachState_detDone : (attachState s).detDone = false := rfl
@[simp] theorem attachState_fsm : (attachState s).fsm = .idle := rfl
@[simp] theorem attachState_probeIdx : (attachState s).probeIdx = 0 := rfl
@[simp] theorem attachState_settleCtr : (attachState s).settleCtr = 0 := rfl
@[simp] theorem attachState_curCls : (attachState s).curCls = none := rfl
@[simp] theorem attachState_txFrame : (attachState s).txFrame = none := rfl
@[simp] theorem attachState_status : (attachState s).status = .none := rfl
@[simp] theorem attachState_errCause : (attachState s).errCause = none := rfl
@[simp] theorem attachState_errAddr : (attachState s).errAddr = none := rfl
@[simp] theorem attachState_rdata : (attachState s).rdata = none := rfl
@[simp] theorem attachState_fault : (attachState s).fault = s.fault := rfl
@[simp] theorem attachState_refused : (attachState s).refused = s.refused := rfl
@[simp] theorem attachState_history : (attachState s).history = s.history ++ [.attach] := rfl
@[simp] theorem attachState_encOut : (attachState s).encOut = s.encOut := rfl
@[simp] theorem attachState_decOut : (attachState s).decOut = s.decOut := rfl
@[simp] theorem attachState_readOut : (attachState s).readOut = s.readOut := rfl
@[simp] theorem attachState_inputs : (attachState s).inputs = s.inputs := rfl
@[simp] theorem attachState_rx : (attachState s).rx = none := rfl

end attachState_fields

section issueWrite_fields
variable (cls : SettleClass) (a : Addr) (v : Value) (s : State)

@[simp] theorem issueWrite_cfg : (issueWrite cls a v s).cfg = s.cfg := rfl
@[simp] theorem issueWrite_variant : (issueWrite cls a v s).variant = s.variant := rfl
@[simp] theorem issueWrite_detDone : (issueWrite cls a v s).detDone = s.detDone := rfl
@[simp] theorem issueWrite_fsm : (issueWrite cls a v s).fsm = .wrWait := rfl
@[simp] theorem issueWrite_probeIdx : (issueWrite cls a v s).probeIdx = s.probeIdx := rfl
@[simp] theorem issueWrite_settleCtr : (issueWrite cls a v s).settleCtr = s.settleCtr := rfl
@[simp] theorem issueWrite_curCls : (issueWrite cls a v s).curCls = some cls := rfl
@[simp] theorem issueWrite_txFrame : (issueWrite cls a v s).txFrame = some (encWrFrame a v) := rfl
@[simp] theorem issueWrite_status : (issueWrite cls a v s).status = s.status := rfl
@[simp] theorem issueWrite_errCause : (issueWrite cls a v s).errCause = s.errCause := rfl
@[simp] theorem issueWrite_errAddr : (issueWrite cls a v s).errAddr = some a := rfl
@[simp] theorem issueWrite_rdata : (issueWrite cls a v s).rdata = s.rdata := rfl
@[simp] theorem issueWrite_fault : (issueWrite cls a v s).fault = s.fault := rfl
@[simp] theorem issueWrite_refused : (issueWrite cls a v s).refused = s.refused := rfl
@[simp] theorem issueWrite_history : (issueWrite cls a v s).history = s.history ++ [.req .write (encWrFrame a v) 0] := rfl
@[simp] theorem issueWrite_encOut : (issueWrite cls a v s).encOut = s.encOut := rfl
@[simp] theorem issueWrite_decOut : (issueWrite cls a v s).decOut = s.decOut := rfl
@[simp] theorem issueWrite_readOut : (issueWrite cls a v s).readOut = s.readOut := rfl
@[simp] theorem issueWrite_inputs : (issueWrite cls a v s).inputs = s.inputs := rfl
@[simp] theorem issueWrite_rx : (issueWrite cls a v s).rx = s.rx := rfl

end issueWrite_fields

section issueRead_fields
variable (a : Addr) (s : State)

@[simp] theorem issueRead_cfg : (issueRead a s).cfg = s.cfg := rfl
@[simp] theorem issueRead_variant : (issueRead a s).variant = s.variant := rfl
@[simp] theorem issueRead_detDone : (issueRead a s).detDone = s.detDone := rfl
@[simp] theorem issueRead_fsm : (issueRead a s).fsm = .rdWait := rfl
@[simp] theorem issueRead_probeIdx : (issueRead a s).probeIdx = s.probeIdx := rfl
@[simp] theorem issueRead_settleCtr : (issueRead a s).settleCtr = s.settleCtr := rfl
@[simp] theorem issueRead_curCls : (issueRead a s).curCls = s.curCls := rfl
@[simp] theorem issueRead_txFrame : (issueRead a s).txFrame = some (encRdFrame a) := rfl
@[simp] theorem issueRead_status : (issueRead a s).status = s.status := rfl
@[simp] theorem issueRead_errCause : (issueRead a s).errCause = s.errCause := rfl
@[simp] theorem issueRead_errAddr : (issueRead a s).errAddr = some a := rfl
@[simp] theorem issueRead_rdata : (issueRead a s).rdata = s.rdata := rfl
@[simp] theorem issueRead_fault : (issueRead a s).fault = s.fault := rfl
@[simp] theorem issueRead_refused : (issueRead a s).refused = s.refused := rfl
@[simp] theorem issueRead_history : (issueRead a s).history = s.history ++ [.req .writeRead (encRdFrame a) Config.lenResponse] := rfl
@[simp] theorem issueRead_encOut : (issueRead a s).encOut = s.encOut := rfl
@[simp] theorem issueRead_decOut : (issueRead a s).decOut = s.decOut := rfl
@[simp] theorem issueRead_readOut : (issueRead a s).readOut = s.readOut := rfl
@[simp] theorem issueRead_inputs : (issueRead a s).inputs = s.inputs := rfl
@[simp] theorem issueRead_rx : (issueRead a s).rx = s.rx := rfl

end issueRead_fields

section probeAccepted_fields
variable (v : Variant) (s : State)

@[simp] theorem probeAccepted_cfg : (probeAccepted v s).cfg = s.cfg := rfl
@[simp] theorem probeAccepted_variant : (probeAccepted v s).variant = v := rfl
@[simp] theorem probeAccepted_detDone : (probeAccepted v s).detDone = true := rfl
@[simp] theorem probeAccepted_fsm : (probeAccepted v s).fsm = .idle := rfl
@[simp] theorem probeAccepted_probeIdx : (probeAccepted v s).probeIdx = s.probeIdx := rfl
@[simp] theorem probeAccepted_settleCtr : (probeAccepted v s).settleCtr = s.cfg.settleOrdinary := rfl
@[simp] theorem probeAccepted_curCls : (probeAccepted v s).curCls = s.curCls := rfl
@[simp] theorem probeAccepted_txFrame : (probeAccepted v s).txFrame = s.txFrame := rfl
@[simp] theorem probeAccepted_status : (probeAccepted v s).status = .ok := rfl
@[simp] theorem probeAccepted_errCause : (probeAccepted v s).errCause = none := rfl
@[simp] theorem probeAccepted_errAddr : (probeAccepted v s).errAddr = s.errAddr := rfl
@[simp] theorem probeAccepted_rdata : (probeAccepted v s).rdata = none := rfl
@[simp] theorem probeAccepted_fault : (probeAccepted v s).fault = s.fault := rfl
@[simp] theorem probeAccepted_refused : (probeAccepted v s).refused = s.refused := rfl
@[simp] theorem probeAccepted_history : (probeAccepted v s).history = s.history ++ [.ans .ok] := rfl
@[simp] theorem probeAccepted_encOut : (probeAccepted v s).encOut = s.encOut := rfl
@[simp] theorem probeAccepted_decOut : (probeAccepted v s).decOut = s.decOut := rfl
@[simp] theorem probeAccepted_readOut : (probeAccepted v s).readOut = s.readOut := rfl
@[simp] theorem probeAccepted_inputs : (probeAccepted v s).inputs = s.inputs := rfl
@[simp] theorem probeAccepted_rx : (probeAccepted v s).rx = none := rfl

end probeAccepted_fields

section probeRejected_fields
variable (k : BusError) (s : State)

@[simp] theorem probeRejected_cfg : (probeRejected k s).cfg = s.cfg := rfl
@[simp] theorem probeRejected_variant : (probeRejected k s).variant = s.variant := rfl
@[simp] theorem probeRejected_detDone : (probeRejected k s).detDone = s.detDone := rfl
@[simp] theorem probeRejected_fsm : (probeRejected k s).fsm = .probeSettle := rfl
@[simp] theorem probeRejected_probeIdx : (probeRejected k s).probeIdx = s.probeIdx + 1 := rfl
@[simp] theorem probeRejected_settleCtr : (probeRejected k s).settleCtr = s.cfg.settleOrdinary := rfl
@[simp] theorem probeRejected_curCls : (probeRejected k s).curCls = s.curCls := rfl
@[simp] theorem probeRejected_txFrame : (probeRejected k s).txFrame = s.txFrame := rfl
@[simp] theorem probeRejected_status : (probeRejected k s).status = s.status := rfl
@[simp] theorem probeRejected_errCause : (probeRejected k s).errCause = s.errCause := rfl
@[simp] theorem probeRejected_errAddr : (probeRejected k s).errAddr = s.errAddr := rfl
@[simp] theorem probeRejected_rdata : (probeRejected k s).rdata = s.rdata := rfl
@[simp] theorem probeRejected_fault : (probeRejected k s).fault = s.fault := rfl
@[simp] theorem probeRejected_refused : (probeRejected k s).refused = s.refused := rfl
@[simp] theorem probeRejected_history : (probeRejected k s).history = s.history ++ [.ans (.err k)] := rfl
@[simp] theorem probeRejected_encOut : (probeRejected k s).encOut = s.encOut := rfl
@[simp] theorem probeRejected_decOut : (probeRejected k s).decOut = s.decOut := rfl
@[simp] theorem probeRejected_readOut : (probeRejected k s).readOut = s.readOut := rfl
@[simp] theorem probeRejected_inputs : (probeRejected k s).inputs = s.inputs := rfl
@[simp] theorem probeRejected_rx : (probeRejected k s).rx = none := rfl

end probeRejected_fields

section noDevice_fields
variable (k : BusError) (s : State)

@[simp] theorem noDevice_cfg : (noDevice k s).cfg = s.cfg := rfl
@[simp] theorem noDevice_variant : (noDevice k s).variant = s.variant := rfl
@[simp] theorem noDevice_detDone : (noDevice k s).detDone = true := rfl
@[simp] theorem noDevice_fsm : (noDevice k s).fsm = .idle := rfl
@[simp] theorem noDevice_probeIdx : (noDevice k s).probeIdx = s.probeIdx := rfl
@[simp] theorem noDevice_settleCtr : (noDevice k s).settleCtr = s.cfg.settleOrdinary := rfl
@[simp] theorem noDevice_curCls : (noDevice k s).curCls = s.curCls := rfl
@[simp] theorem noDevice_txFrame : (noDevice k s).txFrame = s.txFrame := rfl
@[simp] theorem noDevice_status : (noDevice k s).status = .noDeviceFound := rfl
@[simp] theorem noDevice_errCause : (noDevice k s).errCause = none := rfl
@[simp] theorem noDevice_errAddr : (noDevice k s).errAddr = s.errAddr := rfl
@[simp] theorem noDevice_rdata : (noDevice k s).rdata = none := rfl
@[simp] theorem noDevice_fault : (noDevice k s).fault = s.fault := rfl
@[simp] theorem noDevice_refused : (noDevice k s).refused = s.refused := rfl
@[simp] theorem noDevice_history : (noDevice k s).history = s.history ++ [.ans (.err k)] := rfl
@[simp] theorem noDevice_encOut : (noDevice k s).encOut = s.encOut := rfl
@[simp] theorem noDevice_decOut : (noDevice k s).decOut = s.decOut := rfl
@[simp] theorem noDevice_readOut : (noDevice k s).readOut = s.readOut := rfl
@[simp] theorem noDevice_inputs : (noDevice k s).inputs = s.inputs := rfl
@[simp] theorem noDevice_rx : (noDevice k s).rx = none := rfl

end noDevice_fields

section beginStep_fields
variable (s : State)

@[simp] theorem beginStep_cfg : (beginStep s).cfg = s.cfg := rfl
@[simp] theorem beginStep_variant : (beginStep s).variant = s.variant := rfl
@[simp] theorem beginStep_detDone : (beginStep s).detDone = s.detDone := rfl
@[simp] theorem beginStep_fsm : (beginStep s).fsm = s.fsm := rfl
@[simp] theorem beginStep_probeIdx : (beginStep s).probeIdx = s.probeIdx := rfl
@[simp] theorem beginStep_settleCtr : (beginStep s).settleCtr = s.settleCtr := rfl
@[simp] theorem beginStep_curCls : (beginStep s).curCls = s.curCls := rfl
@[simp] theorem beginStep_txFrame : (beginStep s).txFrame = s.txFrame := rfl
@[simp] theorem beginStep_status : (beginStep s).status = s.status := rfl
@[simp] theorem beginStep_errCause : (beginStep s).errCause = s.errCause := rfl
@[simp] theorem beginStep_errAddr : (beginStep s).errAddr = s.errAddr := rfl
@[simp] theorem beginStep_rdata : (beginStep s).rdata = s.rdata := rfl
@[simp] theorem beginStep_fault : (beginStep s).fault = s.fault := rfl
@[simp] theorem beginStep_refused : (beginStep s).refused = s.refused := rfl
@[simp] theorem beginStep_history : (beginStep s).history = s.history := rfl
@[simp] theorem beginStep_encOut : (beginStep s).encOut = none := rfl
@[simp] theorem beginStep_decOut : (beginStep s).decOut = none := rfl
@[simp] theorem beginStep_readOut : (beginStep s).readOut = none := rfl
@[simp] theorem beginStep_inputs : (beginStep s).inputs = s.inputs.tail := rfl
@[simp] theorem beginStep_rx : (beginStep s).rx = answerOf (nextInput s) := rfl

end beginStep_fields

end Sys2Proof.Machine
end

