-- ==== Sys2Proof/Laws/Ops.lean ====
section
/-! SUPPORT. One lemma for each shared operation that says what it can do; later proofs cite these and do not unfold the
operation. -/

namespace Sys2Proof.Machine

/-- An operation inside `running` answers a next state only under a well-formed configuration, outside a fault. -/
theorem running_eq_next {s t : State} {o : StepOutcome} :
    running s o = .next t ↔ s.cfg.wf = true ∧ s.quiescent = false ∧ o = .next t := by
  unfold running
  cases s.cfg.wf <;> cases s.quiescent <;> simp

/-- Under a well-formed configuration and outside a fault, `running` is the operation itself. -/
theorem running_of_live {s : State} (hc : s.cfg.wf = true) (hq : s.quiescent = false) (o : StepOutcome) :
    running s o = o := by simp [running, hc, hq]

/-- In a faulted state nothing runs. -/
theorem running_of_quiescent {s : State} (hc : s.cfg.wf = true) (hq : s.quiescent = true) (o : StepOutcome) :
    running s o = .fault (.quiescent s.fault) := by simp [running, hc, hq]

/-- Under a configuration that fails R7 nothing runs. -/
theorem running_of_illFormed {s : State} (hc : s.cfg.wf = false) (o : StepOutcome) :
    running s o = .refused .config := by simp [running, hc]

/-- A state is outside a fault exactly when neither mark says so. -/
theorem quiescent_eq_false {s : State} : s.quiescent = false ↔ s.fsm ≠ .faulted ∧ s.fault = none := by
  simp [State.quiescent]

theorem issueFault_eq_none {s : State} : issueFault s = none ↔ s.fsm = .idle ∧ s.settleCtr = 0 := by
  unfold issueFault
  by_cases h : s.fsm = .idle <;> by_cases h' : 0 < s.settleCtr <;> simp [h, h'] <;> omega

theorem issueFault_eq_some {s : State} {r : FaultReason} :
    issueFault s = some r ↔
      (r = .busy ∧ s.fsm ≠ .idle) ∨ (r = .settle ∧ s.fsm = .idle ∧ 0 < s.settleCtr) := by
  unfold issueFault
  by_cases h : s.fsm = .idle <;> by_cases h' : 0 < s.settleCtr <;> simp [h, h'] <;> exact eq_comm

theorem detectFault_eq_none {s : State} :
    detectFault s = none ↔ s.fsm = .idle ∧ s.settleCtr = 0 ∧ s.detDone = false := by
  unfold detectFault
  cases h : issueFault s with
  | none =>
    obtain ⟨h1, h2⟩ := issueFault_eq_none.1 h
    simp [h1, h2]
  | some r =>
    have : ¬(s.fsm = .idle ∧ s.settleCtr = 0) := fun hh => by simp [issueFault_eq_none.2 hh] at h
    simp only [reduceCtorEq, false_iff]
    exact fun hh => this ⟨hh.1, hh.2.1⟩

theorem detectFault_eq_some {s : State} {r : FaultReason} :
    detectFault s = some r ↔
      (r = .busy ∧ s.fsm ≠ .idle) ∨ (r = .settle ∧ s.fsm = .idle ∧ 0 < s.settleCtr) ∨
      (r = .redetect ∧ s.fsm = .idle ∧ s.settleCtr = 0 ∧ s.detDone = true) := by
  unfold detectFault
  cases h : issueFault s with
  | none =>
    obtain ⟨h1, h2⟩ := issueFault_eq_none.1 h
    cases s.detDone <;> simp [h1, h2]
    exact eq_comm
  | some q =>
    rcases issueFault_eq_some.1 h with ⟨rfl, h1⟩ | ⟨rfl, h1, h2⟩
    · simp [h1]; exact eq_comm
    · have : s.settleCtr ≠ 0 := by omega
      simp [h1, h2, this]; exact eq_comm

/-- A probe that is sent is one of the list. -/
theorem sendProbe_eq_next {s t : State} :
    sendProbe s = .next t ↔ ∃ p, (probeList s.cfg)[s.probeIdx]? = some p ∧
      t = { sendFrame .write (encWrFrame Config.probeAddr p.2) 0 Config.probeAddr .probeWait s with
        curCls := some .ordinary } := by
  unfold sendProbe
  cases (probeList s.cfg)[s.probeIdx]? <;> simp [eq_comm]

/-- Everything the answer to a probe can do. -/
theorem completeProbe_eq_next {ans : Answer} {s t : State} :
    completeProbe ans s = .next t ↔
      (ans = .ok ∧ ∃ p, (probeList s.cfg)[s.probeIdx]? = some p ∧ t = probeAccepted p.1 s) ∨
      (∃ k, ans = .err k ∧ s.probeIdx + 1 < (probeList s.cfg).length ∧ t = probeRejected k s) ∨
      (∃ k, ans = .err k ∧ ¬ s.probeIdx + 1 < (probeList s.cfg).length ∧ t = noDevice k s) ∨
      (∃ r, ans = .okBytes r ∧ t = discardAnswer s) := by
  cases ans with
  | ok => unfold completeProbe; cases (probeList s.cfg)[s.probeIdx]? <;> simp [eq_comm]
  | okBytes r => simp [completeProbe, eq_comm]
  | err k =>
    by_cases h : s.probeIdx + 1 < (probeList s.cfg).length
    · simp [completeProbe, h, eq_comm]
    · simp [completeProbe, h, eq_comm]


end Sys2Proof.Machine
end

