-- ==== Sys2Proof/Laws/PerInstr.lean ====
section
/-! SUPPORT. A fact about every instruction as a term: its signal is a legal one (30_encoding R70, R80), by one lemma for each
constructor. -/

namespace Sys2Proof.Laws.LegalSignal

/-- The signal an instruction is encoded as is legal. -/
def Statement (i : Instr) : Prop := (encode i).legal = true

theorem frmWr (a : Addr) (v : Value) : Statement (.frmWr a v) := rfl
theorem frmRdreq (a : Addr) : Statement (.frmRdreq a) := rfl
theorem frmRdresp (v : Value) : Statement (.frmRdresp v) := rfl
theorem encWr (a : Addr) (v : Value) : Statement (.encWr a v) := rfl
theorem encRd (a : Addr) : Statement (.encRd a) := rfl
theorem decResp (r0 r1 r2 r3 : Byte) : Statement (.decResp r0 r1 r2 r3) := rfl
theorem wr (cls : SettleClass) (a : Addr) (v : Value) : Statement (.wr cls a v) := rfl
theorem rd (a : Addr) : Statement (.rd a) := rfl
theorem detect : Statement .detect := rfl
theorem tick (n : Value) : Statement (.tick n) := rfl
theorem reservedSel7 : Statement .reservedSel7 := rfl
theorem attach : Statement .attach := rfl

end Sys2Proof.Laws.LegalSignal
end

