-- ==== Sys2Proof/Laws/Step.lean ====
section
/-! SUPPORT. Everything one step can do, said once: `Move` lists the transitions and `step_move` proves that every next state is
one of them. Invariants go by cases on a `Move`. -/

namespace Sys2Proof.Machine

/-- The transitions of the machine from `s`, each with the event that makes it and the condition under which it happens. -/
inductive Move (s : State) : State → Prop where
  /-- a pure codec command drives a result port -/
  | codec (b : Bundle) (hin : nextInput s = .command b) (e : Option (List Byte)) (d : Option Value) :
      Move s { beginStep s with encOut := e, decOut := d }
  /-- a host read returns a value -/
  | read (r : ReadReg) (v : ReadValue) (hin : nextInput s = .read r) (hv : readValue s r = some v) :
      Move s { beginStep s with readOut := some v }
  /-- a host read of a register that holds no value -/
  | readFault (r : ReadReg) (hin : nextInput s = .read r) (hv : readValue s r = none) :
      Move s (raiseFault .noValue (beginStep s))
  /-- a bus command that comes too early -/
  | issueFault (b : Bundle) (r : FaultReason) (hin : nextInput s = .command b)
      (hsel : b.sel = 0b011 ∨ b.sel = 0b100 ∨ b.sel = 0b101) (hf : issueFault s = some r) :
      Move s (raiseFault r (beginStep s))
  /-- a second DETECT -/
  | redetect (b : Bundle) (hin : nextInput s = .command b) (hsel : b.sel = 0b101) (hi : s.fsm = .idle)
      (hs : s.settleCtr = 0) (hd : s.detDone = true) : Move s (raiseFault .redetect (beginStep s))
  /-- selector 111 -/
  | refuse (b : Bundle) (hin : nextInput s = .command b) (hsel : b.sel = 0b111) :
      Move s (recordRefusal .selector (beginStep s))
  /-- time passes -/
  | tick (b : Bundle) (hin : nextInput s = .command b) (hsel : b.sel = 0b110) :
      Move s { beginStep s with settleCtr := s.settleCtr - b.data.toNat }
  /-- ATTACH -/
  | attach (hin : nextInput s = .attach) : Move s (attachState (beginStep s))
  /-- the issue of a WR -/
  | issueWrite (b : Bundle) (cls : SettleClass) (a : Addr) (v : Value) (hin : nextInput s = .command b)
      (hsel : b.sel = 0b011) (hi : s.fsm = .idle) (hs : s.settleCtr = 0) : Move s (issueWrite cls a v (beginStep s))
  /-- the issue of an RD -/
  | issueRead (b : Bundle) (a : Addr) (hin : nextInput s = .command b) (hsel : b.sel = 0b100) (hi : s.fsm = .idle)
      (hs : s.settleCtr = 0) : Move s (issueRead a (beginStep s))
  /-- DETECT sends the first probe -/
  | detect (b : Bundle) (p : Variant × Value) (hin : nextInput s = .command b) (hsel : b.sel = 0b101)
      (hi : s.fsm = .idle) (hs : s.settleCtr = 0) (hd : s.detDone = false) (hp : (probeList s.cfg)[0]? = some p) :
      Move s { sendFrame .write (encWrFrame Config.probeAddr p.2) 0 Config.probeAddr .probeWait
        { beginStep s with probeIdx := 0 } with curCls := some .ordinary }
  /-- the sequencer sends its next probe -/
  | nextProbe (p : Variant × Value) (hin : nextInput s = .quiet) (hf : s.fsm = .probeSettle) (hs : s.settleCtr = 0)
      (hp : (probeList s.cfg)[s.probeIdx]? = some p) :
      Move s { sendFrame .write (encWrFrame Config.probeAddr p.2) 0 Config.probeAddr .probeWait (beginStep s) with
        curCls := some .ordinary }
  /-- the block holds -/
  | hold (hin : nextInput s = .quiet) (hh : ¬(s.fsm = .probeSettle ∧ s.settleCtr = 0)) : Move s (beginStep s)
  /-- an answer that no request takes -/
  | discard (a : Answer) (hin : nextInput s = .answer a) : Move s (discardAnswer (beginStep s))
  /-- the completion of a WR -/
  | writeDone (a : Answer) (st : Status) (c : Option ErrCause) (hin : nextInput s = .answer a) (hf : s.fsm = .wrWait)
      (hr : writeResult a = some (st, c)) :
      Move s (completeTransaction a st c none (writeSettle s.cfg s.curCls) (beginStep s))
  /-- the completion of an RD -/
  | readDone (a : Answer) (st : Status) (c : Option ErrCause) (v : Option Value) (hin : nextInput s = .answer a)
      (hf : s.fsm = .rdWait) (hr : readResult a = some (st, c, v)) :
      Move s (completeTransaction a st c v s.cfg.settleRead (beginStep s))
  /-- an accepted probe -/
  | accepted (p : Variant × Value) (hin : nextInput s = .answer .ok) (hf : s.fsm = .probeWait)
      (hp : (probeList s.cfg)[s.probeIdx]? = some p) : Move s (probeAccepted p.1 (beginStep s))
  /-- a rejected probe with another remaining -/
  | rejected (k : BusError) (hin : nextInput s = .answer (.err k)) (hf : s.fsm = .probeWait)
      (hp : s.probeIdx + 1 < (probeList s.cfg).length) : Move s (probeRejected k (beginStep s))
  /-- the last probe rejected -/
  | noDevice (k : BusError) (hin : nextInput s = .answer (.err k)) (hf : s.fsm = .probeWait)
      (hp : ¬ s.probeIdx + 1 < (probeList s.cfg).length) : Move s (noDevice k (beginStep s))

/-- The eight commands by their selector (30_encoding R77, R78). -/
theorem decodeBundle_cases (b : Bundle) :
    (b.sel = 0b000 ∧ decodeBundle b = .encWr b.addr b.data) ∨
    (b.sel = 0b001 ∧ decodeBundle b = .encRd b.addr) ∨
    (b.sel = 0b010 ∧ decodeBundle b = .decResp b.lane0 b.lane1 b.lane2 b.lane3) ∨
    (b.sel = 0b011 ∧ decodeBundle b = .wr (clsOfPort b.cls) b.addr b.data) ∨
    (b.sel = 0b100 ∧ decodeBundle b = .rd b.addr) ∨
    (b.sel = 0b101 ∧ decodeBundle b = .detect) ∨
    (b.sel = 0b110 ∧ decodeBundle b = .tick b.data) ∨
    (b.sel = 0b111 ∧ decodeBundle b = .reservedSel7) := by
  have h : ∀ c : Code, c = 0 ∨ c = 1 ∨ c = 2 ∨ c = 3 ∨ c = 4 ∨ c = 5 ∨ c = 6 ∨ c = 7 := by decide
  rcases h b.sel with h | h | h | h | h | h | h | h <;> simp [decodeBundle, h]

@[simp] theorem issueFault_beginStep (s : State) : issueFault (beginStep s) = issueFault s := rfl

@[simp] theorem quiescent_beginStep (s : State) : (beginStep s).quiescent = s.quiescent := rfl

@[simp] theorem readValue_beginStep (s : State) (r : ReadReg) : readValue (beginStep s) r = readValue s r := by
  cases r <;> rfl

/-- A four-byte response is the big-endian bytes of its value (40_codec R93 (5)). -/
theorem valueBytes_joinValue (r0 r1 r2 r3 : Byte) : valueBytes (joinValue r0 r1 r2 r3) = [r0, r1, r2, r3] := by
  simp only [valueBytes, joinValue, List.cons.injEq, and_true]
  refine ⟨?_, ?_, ?_, ?_⟩ <;> (ext i hi; simp; grind)

/-- A command's moves. -/
theorem move_of_command {s t : State} {b : Bundle} (hin : nextInput s = .command b)
    (h : exec (decodeBundle b) (beginStep s) = .next t) : Move s t := by
  rcases decodeBundle_cases b with ⟨hb, e⟩ | ⟨hb, e⟩ | ⟨hb, e⟩ | ⟨hb, e⟩ | ⟨hb, e⟩ | ⟨hb, e⟩ | ⟨hb, e⟩ | ⟨hb, e⟩ <;>
    rw [e] at h
  · obtain ⟨-, -, h⟩ := running_eq_next.1 h
    cases h; exact .codec b hin _ _
  · obtain ⟨-, -, h⟩ := running_eq_next.1 h
    cases h; exact .codec b hin _ _
  · obtain ⟨-, -, h⟩ := running_eq_next.1 h
    cases h; exact .codec b hin _ _
  · obtain ⟨-, -, h⟩ := running_eq_next.1 h
    cases hf : issueFault (beginStep s) <;> rw [hf] at h <;> cases h
    · obtain ⟨h1, h2⟩ := issueFault_eq_none.1 hf
      exact .issueWrite b _ _ _ hin hb h1 h2
    · exact .issueFault b _ hin (.inl hb) hf
  · obtain ⟨-, -, h⟩ := running_eq_next.1 h
    cases hf : issueFault (beginStep s) <;> rw [hf] at h <;> cases h
    · obtain ⟨h1, h2⟩ := issueFault_eq_none.1 hf
      exact .issueRead b _ hin hb h1 h2
    · exact .issueFault b _ hin (.inr (.inl hb)) hf
  · obtain ⟨-, -, h⟩ := running_eq_next.1 h
    cases hf : detectFault (beginStep s) <;> rw [hf] at h
    · obtain ⟨h1, h2, h3⟩ := detectFault_eq_none.1 hf
      obtain ⟨p, hp, rfl⟩ := sendProbe_eq_next.1 h
      exact .detect b p hin hb h1 h2 h3 hp
    · cases h
      rcases detectFault_eq_some.1 hf with ⟨rfl, h1⟩ | ⟨rfl, h1, h2⟩ | ⟨rfl, h1, h2, h3⟩
      · exact .issueFault b _ hin (.inr (.inr hb)) (issueFault_eq_some.2 (.inl ⟨rfl, h1⟩))
      · exact .issueFault b _ hin (.inr (.inr hb)) (issueFault_eq_some.2 (.inr ⟨rfl, h1, h2⟩))
      · exact .redetect b hin hb h1 h2 h3
  · obtain ⟨-, -, h⟩ := running_eq_next.1 h
    cases h; exact .tick b hin hb
  · obtain ⟨-, -, h⟩ := running_eq_next.1 h
    cases h; exact .refuse b hin hb

/-- The moves of a frame on the wire that an answer makes. -/
theorem move_of_frmWr {s t : State} {ans : Answer} {a : Addr} {v : Value} (hin : nextInput s = .answer ans)
    (h : exec (.frmWr a v) (beginStep s) = .next t) : Move s t := by
  obtain ⟨-, -, h⟩ := running_eq_next.1 h
  have hrx : (beginStep s).rx = some ans := by simp [hin, answerOf]
  rw [hrx] at h
  split at h
  · cases hf : s.fsm <;> simp only [beginStep_fsm, hf] at h
    all_goals try (cases h; exact .discard ans hin)
    · rw [completeWrite] at h
      cases hr : writeResult ans with
      | none => rw [hr] at h; cases h; exact .discard ans hin
      | some x => rw [hr] at h; cases h; exact .writeDone ans x.1 x.2 hin hf hr
    · rcases completeProbe_eq_next.1 h with ⟨rfl, p, hp, rfl⟩ | ⟨k, rfl, hp, rfl⟩ | ⟨k, rfl, hp, rfl⟩ | ⟨r, rfl, rfl⟩
      · exact .accepted p hin hf hp
      · exact .rejected k hin hf hp
      · exact .noDevice k hin hf hp
      · exact .discard _ hin
  · cases h; exact .discard ans hin

theorem move_of_completeRead {s : State} {ans : Answer} (hin : nextInput s = .answer ans) (hf : s.fsm = .rdWait) :
    Move s (completeRead ans (beginStep s)) := by
  unfold completeRead
  cases hr : readResult ans with
  | none => exact .discard ans hin
  | some x => exact .readDone ans x.1 x.2.1 x.2.2 hin hf hr

theorem move_of_frmRdreq {s t : State} {ans : Answer} {a : Addr} (hin : nextInput s = .answer ans)
    (h : exec (.frmRdreq a) (beginStep s) = .next t) : Move s t := by
  obtain ⟨-, -, h⟩ := running_eq_next.1 h
  have hrx : (beginStep s).rx = some ans := by simp [hin, answerOf]
  rw [hrx] at h
  split at h
  · cases hf : s.fsm <;> simp only [beginStep_fsm, hf] at h
    all_goals try (cases h; exact .discard ans hin)
    cases h; exact move_of_completeRead hin hf
  · cases h; exact .discard ans hin

theorem move_of_frmRdresp {s t : State} {r0 r1 r2 r3 : Byte} (hin : nextInput s = .answer (.okBytes [r0, r1, r2, r3]))
    (h : exec (.frmRdresp (joinValue r0 r1 r2 r3)) (beginStep s) = .next t) : Move s t := by
  obtain ⟨-, -, h⟩ := running_eq_next.1 h
  rw [valueBytes_joinValue] at h
  cases hf : s.fsm <;> simp only [beginStep_fsm, hf] at h
  all_goals try (cases h; exact .discard _ hin)
  cases h; exact move_of_completeRead hin hf

/-- A request frame decodes to a write or a read request (30_encoding R80). -/
theorem decodeRequest_ok {f : List Byte} {i : Instr} (h : decodeRequest f = .ok i) :
    (∃ a v, i = .frmWr a v) ∨ (∃ a, i = .frmRdreq a) := by
  unfold decodeRequest at h
  split at h
  · cases h
  · split at h
    · split at h <;> cases h; exact .inl ⟨_, _, rfl⟩
    · split at h
      · split at h <;> cases h; exact .inr ⟨_, rfl⟩
      · cases h

theorem requestInFlight_some {s : State} {i : Instr} (h : requestInFlight s = some i) :
    (∃ a v, i = .frmWr a v) ∨ (∃ a, i = .frmRdreq a) := by
  unfold requestInFlight at h
  split at h
  · rename_i f _
    cases hd : decodeRequest f <;> rw [hd] at h <;> cases h
    exact decodeRequest_ok hd
  · cases h

/-- What an answer stands for (30_encoding R80). -/
theorem answeredInstr_some {s : State} {ans : Answer} {i : Instr} (h : answeredInstr s ans = some i) :
    (∃ a v, i = .frmWr a v) ∨ (∃ a, i = .frmRdreq a) ∨
    (∃ r0 r1 r2 r3, ans = .okBytes [r0, r1, r2, r3] ∧ i = .frmRdresp (joinValue r0 r1 r2 r3)) := by
  have hreq : requestInFlight s = some i → (∃ a v, i = .frmWr a v) ∨ (∃ a, i = .frmRdreq a) ∨
      (∃ r0 r1 r2 r3, ans = .okBytes [r0, r1, r2, r3] ∧ i = .frmRdresp (joinValue r0 r1 r2 r3)) :=
    fun h => (requestInFlight_some h).imp id .inl
  unfold answeredInstr at h
  split at h
  · exact hreq h
  · exact hreq h
  · split at h
    · split at h
      · rename_i r j hd
        cases h
        unfold decodeResponse at hd
        split at hd <;> cases hd
        exact .inr (.inr ⟨_, _, _, _, rfl, rfl⟩)
      · exact hreq h
    · exact hreq h
    · exact hreq h
  all_goals cases h

/-- Every next state is one of the moves, from a state under a well-formed configuration and outside a fault. -/
theorem step_move {s t : State} (h : step s = .next t) : s.cfg.wf = true ∧ s.quiescent = false ∧ Move s t := by
  have live : ∀ {o : StepOutcome}, running (beginStep s) o = .next t → s.cfg.wf = true ∧ s.quiescent = false :=
    fun h => ⟨(running_eq_next.1 h).1, (running_eq_next.1 h).2.1⟩
  have execLive : ∀ {i : Instr}, exec i (beginStep s) = .next t → s.cfg.wf = true ∧ s.quiescent = false :=
    fun {i} h => by cases i <;> exact live h
  unfold step fetched at h
  cases hin : nextInput s with
  | command b =>
    rw [hin] at h
    exact ⟨(execLive h).1, (execLive h).2, move_of_command hin h⟩
  | attach =>
    rw [hin] at h
    refine ⟨(execLive h).1, (execLive h).2, ?_⟩
    obtain ⟨-, -, h⟩ := running_eq_next.1 h
    cases h; exact .attach hin
  | answer ans =>
    rw [hin] at h
    cases ha : answeredInstr s ans with
    | none =>
      simp only [ha] at h
      refine ⟨(live h).1, (live h).2, ?_⟩
      obtain ⟨-, -, h⟩ := running_eq_next.1 h
      cases h; exact .discard ans hin
    | some i =>
      simp only [ha] at h
      refine ⟨(execLive h).1, (execLive h).2, ?_⟩
      rcases answeredInstr_some ha with ⟨a, v, rfl⟩ | ⟨a, rfl⟩ | ⟨r0, r1, r2, r3, rfl, rfl⟩
      · exact move_of_frmWr hin h
      · exact move_of_frmRdreq hin h
      · exact move_of_frmRdresp hin h
  | read r =>
    rw [hin] at h
    refine ⟨(live h).1, (live h).2, ?_⟩
    obtain ⟨-, -, h⟩ := running_eq_next.1 h
    rw [readValue_beginStep] at h
    cases hv : readValue s r <;> rw [hv] at h <;> cases h
    · exact .readFault r hin hv
    · exact .read r _ hin hv
  | quiet =>
    rw [hin] at h
    refine ⟨(live h).1, (live h).2, ?_⟩
    obtain ⟨-, -, h⟩ := running_eq_next.1 h
    split at h
    · rename_i hp
      obtain ⟨p, hp', rfl⟩ := sendProbe_eq_next.1 h
      exact .nextProbe p hin hp.1 hp.2 hp'
    · rename_i hp
      cases h; exact .hold hin hp

end Sys2Proof.Machine
end

