-- ==== Sys2Proof/Laws/Run.lean ====
section
/-! SUPPORT. Runs of several steps: how a run begins, and that what every step keeps every run keeps. -/

namespace Sys2Proof.Machine

/-- A run whose first step has a next state goes on from it. -/
theorem run_next {k : Nat} {s t : State} (h : step s = .next t) :
    Sys2Proof.core.run (k + 1) s = Sys2Proof.core.run k t := by
  have unfolded : ∀ (M : Host.Core) (k : Nat) (s t : M.State), M.step s = .next t → M.run (k + 1) s = M.run k t :=
    fun M k s t h => by rw [Host.Core.run, h]
  exact unfolded Sys2Proof.core k s t h

/-- A run that ends in a next state begins with one. -/
theorem run_succ_next {k : Nat} {s t : State} (h : Sys2Proof.core.run (k + 1) s = .next t) :
    ∃ u, step s = .next u ∧ Sys2Proof.core.run k u = .next t := by
  have unfolded : ∀ (M : Host.Core) (k : Nat) (s t : M.State), M.run (k + 1) s = .next t →
      ∃ u, M.step s = .next u ∧ M.run k u = .next t := fun M k s t h => by
    rw [Host.Core.run] at h
    cases hs : M.step s <;> rw [hs] at h
    · exact ⟨_, rfl, h⟩
    · cases h
    · cases h
  exact unfolded Sys2Proof.core k s t h

/-- What every step keeps, every run keeps. -/
theorem run_keeps {P : State → Prop} (keeps : ∀ s t, P s → step s = .next t → P t) (k : Nat) {s t : State} (hs : P s)
    (h : Sys2Proof.core.run k s = .next t) : P t := by
  induction k generalizing s with
  | zero => cases h; exact hs
  | succ k ih =>
    obtain ⟨u, h1, h2⟩ := run_succ_next h
    exact ih (keeps s u hs h1) h2

end Sys2Proof.Machine
end

