-- ==== Sys2Proof/Tests/Slice0.lean ====
section
/-! SUPPORT. The model's own tests: the well-formedness checks refuse ill-formed terms; words written out from the spec's
encodings decode; single steps give the results of spec/95_test_vectors (named in each comment); and, for every statement
with hypotheses, a state that meets them together. -/

namespace Sys2Proof.Tests

open Sys2Proof.Machine

/-! ### Well-formedness: an ill-formed term for each check -/

/-- 00_scope R7 and DT-7: PROBE_ENABLE_ALL without a value. -/
theorem test_wf_params_magic :
    Params.wf { Params.production with probeEnableAll := true, magicNano90 := some 3 } = false := by decide

/-- 00_scope R7: SETTLE_CTR_MAX below the largest settle count. -/
theorem test_wf_params_ctr : Params.wf { Params.production with settleCtrMax := some 49 } = false := by decide

theorem test_wf_params_production : Params.wf Params.production = true := by decide

/-- 30_encoding R80: a write frame one byte short, a read request one byte long, an undefined opcode. -/
theorem test_wf_frames : legalRequest [0x12, 0, 0, 0, 0, 0, 0] = false ∧ legalRequest [0x13, 0, 0, 0, 0] = false ∧
    legalRequest [0x14, 0, 0, 0] = false ∧ legalRequest [] = false ∧ legalResponse [0, 1, 0x2C] = false := by decide

theorem test_wf_signal : Signal.legal (.request [0x00]) = false ∧ Signal.legal (.response []) = false := by decide

/-- 30_encoding R83: an address of 25 bits, a value of 33 bits, a byte of 9 bits, a count of 33 bits. -/
theorem test_wf_asm : Asm.fits (.wr 0x1000000 0) = false ∧ Asm.fits (.wrS 0 0x100000000) = false ∧
    Asm.fits (.encWr 0x1000000 0) = false ∧ Asm.fits (.encRd 0x1000000) = false ∧ Asm.fits (.rd 0x1000000) = false ∧
    Asm.fits (.decResp 0 0 0x100 0) = false ∧ Asm.fits (.tick 0x100000000) = false := by decide

/-! ### Decoding: words written out from the spec's encodings, one for each constructor -/

/-- L1-1. -/
theorem test_decode_frmWr :
    decodeRequest [0x12, 0x00, 0x00, 0x50, 0x04, 0x52, 0x48, 0x4E] = .ok (.frmWr 0x000050 0x0452484E) := by decide

/-- EW-3: every byte in its place. -/
theorem test_decode_frmWr_lanes :
    decodeTableWord 64 0x1212345689ABCDEF = some (.frmWr 0x123456 0x89ABCDEF) := by decide

/-- ER-4. -/
theorem test_decode_frmRdreq : decodeTableWord 32 0x13123456 = some (.frmRdreq 0x123456) := by decide

/-- L1-2, and an opcode-like first byte told by context (DR-7). -/
theorem test_decode_frmRdresp : decodeResponse [0x00, 0x00, 0x01, 0x2C] = .ok (.frmRdresp 0x0000012C) ∧
    decodeResponse [0x13, 0x00, 0x00, 0x50] = .ok (.frmRdresp 0x13000050) := by decide

/-- 30_encoding R80: rejected by name. -/
theorem test_decode_rejects : decodeRequest [0x14, 0, 0, 0] = .error (.undefinedOpcode 0x14) ∧
    decodeRequest [0x13, 0, 0] = .error (.frameLength 3) ∧ decodeRequest [] = .error .emptyFrame ∧
    decodeResponse [0, 1, 0x2C] = .error (.responseLength 3) ∧
    decodeTableWord 64 0x1300000000000000 = none := by decide

/-- The ports of a bundle with every port set. -/
def fullBundle (sel : Code) : Bundle :=
  { sel := sel, cls := 1, addr := 0x123456, data := 0x89ABCDEF, lane0 := 0x12, lane1 := 0x34, lane2 := 0x56, lane3 := 0x78 }

/-- 30_encoding R77, R78: the selector map. -/
theorem test_decode_selectors :
    decodeBundle (fullBundle 0b000) = .encWr 0x123456 0x89ABCDEF ∧
    decodeBundle (fullBundle 0b001) = .encRd 0x123456 ∧
    decodeBundle (fullBundle 0b010) = .decResp 0x12 0x34 0x56 0x78 ∧
    decodeBundle (fullBundle 0b011) = .wr .shutter 0x123456 0x89ABCDEF ∧
    decodeBundle (fullBundle 0b100) = .rd 0x123456 ∧
    decodeBundle (fullBundle 0b101) = .detect ∧
    decodeBundle (fullBundle 0b110) = .tick 0x89ABCDEF ∧
    decodeBundle (fullBundle 0b111) = .reservedSel7 := by decide

/-- 30_encoding R85. -/
theorem test_decode_attach : decode .resetInput = .ok .attach := by decide

/-! ### The assembler (30_encoding R83) -/

/-- "wr.s 0x6C, 0x4A6 ; x" (P1). -/
theorem test_assemble_wrS :
    assembleLine ['w', 'r', '.', 's', ' ', '0', 'x', '6', 'C', ',', ' ', '0', 'x', '4', 'A', '6', ' ', ';', ' ', 'x'] =
      .ok (some (.command { bareBundle 0b011 with cls := 1, addr := 0x6C, data := 0x4A6 })) := by decide

/-- "tick 10", a blank line, and a literal that does not fit. -/
theorem test_assemble_lines :
    assembleLine ['t', 'i', 'c', 'k', ' ', '1', '0'] = .ok (some (.command { bareBundle 0b110 with data := 10 })) ∧
    assembleLine [' ', ';', 'x'] = .ok none ∧
    assembleLine ['r', 'd', ' ', '0', 'x', '1', '0', '0', '0', '0', '0', '0'] = .error .doesNotFit ∧
    assembleLine ['n', 'o', 'p'] = .error .unknownMnemonic := by decide

/-! ### Single steps -/

/-- The next state of an outcome, if it has one. -/
def nextOf : StepOutcome → Option State
  | .next s => some s
  | .fault _ => none
  | .refused _ => none

/-- The launch state with one event presented. -/
def presented (x : Input) : State := { State.reset with inputs := [x] }

/-- A WR in flight: the state after WR-1's issue, with `cls`. -/
def writing (cls : SettleClass) : State :=
  { State.reset with
    fsm := .wrWait, txFrame := some (encWrFrame 0x38C 0x40444648), errAddr := some 0x38C, curCls := some cls
    history := [.attach, .req .write (encWrFrame 0x38C 0x40444648) 0] }

/-- An RD in flight: the state after RD-1's issue. -/
def reading : State :=
  { State.reset with
    fsm := .rdWait, txFrame := some (encRdFrame 0x3A4), errAddr := some 0x3A4
    history := [.attach, .req .writeRead (encRdFrame 0x3A4) 4] }

/-- DT-5's configuration, with two values in place of the open parameters. -/
def threeProbes : Params :=
  { Params.production with probeEnableAll := true, magicMicroV2 := some 0x22222222, magicNano90 := some 0x33333333 }

/-- A probe of the three-probe list in flight. -/
def probing (i : Nat) (m : Value) : State :=
  { State.reset with
    cfg := threeProbes, fsm := .probeWait, probeIdx := i, txFrame := some (encWrFrame 0x50 m), errAddr := some 0x50
    curCls := some .ordinary, history := [.attach, .req .write (encWrFrame 0x50 m) 0] }

/-- The sequencer between its first and second probe. -/
def settling (n : Nat) : State :=
  { State.reset with
    cfg := threeProbes, fsm := .probeSettle, probeIdx := 1, settleCtr := n, txFrame := some (encWrFrame 0x50 0x0452484E)
    errAddr := some 0x50, curCls := some .ordinary
    history := [.attach, .req .write (encWrFrame 0x50 0x0452484E) 0, .ans (.err .nack)] }

/-- EW-8: a pure command runs while busy, `fsm` stays WR_WAIT. -/
theorem test_encWr_busy : (nextOf (exec (.encWr 0x123456 0x89ABCDEF) (writing .ordinary))).map (fun t => (t.encOut, t.fsm)) =
    some (some [0x12, 0x12, 0x34, 0x56, 0x89, 0xAB, 0xCD, 0xEF], .wrWait) := by decide

/-- EW-9: no F_SETTLE for a pure command. -/
theorem test_encWr_settle :
    (nextOf (exec (.encWr 0x123456 0x89ABCDEF) { State.reset with settleCtr := 50 })).map (fun t => (t.settleCtr, t.fault)) =
      some (50, none) := by decide

/-- ER-6. -/
theorem test_encRd : (nextOf (exec (.encRd 0x123456) (settling 10))).map (fun t => (t.encOut, t.fsm)) =
    some (some [0x13, 0x12, 0x34, 0x56], .probeSettle) := by decide

/-- DR-3 and DR-6: unsigned, big-endian. -/
theorem test_decResp : (nextOf (exec (.decResp 0x80 0 0 0) State.reset)).map State.decOut = some (some 0x80000000) ∧
    (nextOf (exec (.decResp 0x01 0 0 0) State.reset)).map State.decOut = some (some 0x01000000) := by decide

/-- WR-2: a shutter write issued by its bundle. -/
theorem test_wr_issue :
    (nextOf (step (presented (.command { bareBundle 0b011 with cls := 1, addr := 0x6C, data := 0x4A6 })))).map
      (fun t => (t.txFrame, t.curCls, t.errAddr, t.fsm)) =
    some (some [0x12, 0x00, 0x00, 0x6C, 0x00, 0x00, 0x04, 0xA6], some .shutter, some 0x00006C, .wrWait) := by decide

/-- WR-6: F_SETTLE with the counter kept. -/
theorem test_wr_settle : (nextOf (exec (.wr .ordinary 0x38C 0) { State.reset with settleCtr := 3 })).map
    (fun t => (t.fault, t.fsm, t.settleCtr, t.history)) = some (some .settle, .faulted, 3, [.attach]) := by decide

/-- RD-1's issue. -/
theorem test_rd_issue : (nextOf (exec (.rd 0x3A4) State.reset)).map (fun t => (t.fsm, t.history)) =
    some (.rdWait, [.attach, .req .writeRead [0x13, 0x00, 0x03, 0xA4] 4]) := by decide

/-- RD-8: busy. -/
theorem test_rd_busy : (nextOf (exec (.rd 0x3A4) reading)).map (fun t => (t.fault, t.fsm)) =
    some (some .busy, .faulted) := by decide

/-- WR-2's answer, with the 50-unit window; WR-3's failed write, with its cause and its 10-unit window. -/
theorem test_frmWr_write : (nextOf (step { writing .shutter with inputs := [.answer .ok] })).map
      (fun t => (t.status, t.errCause, t.settleCtr, t.fsm)) = some (.ok, none, 50, .idle) ∧
    (nextOf (step { writing .ordinary with inputs := [.answer (.err .nack)] })).map
      (fun t => (t.status, t.errCause, t.errAddr, t.settleCtr)) =
    some (.busWriteFailed, some (.bus .nack), some 0x38C, 10) := ⟨by decide, by decide⟩

/-- RD-1's answer. -/
theorem test_frmRdresp : (nextOf (step { reading with inputs := [.answer (.okBytes [0x00, 0x00, 0x01, 0x2C])] })).map
    (fun t => (t.status, t.rdata, t.settleCtr, t.history.length)) = some (.ok, some 0x0000012C, 10, 3) := by decide

/-- RD-2: a legitimate zero. -/
theorem test_frmRdresp_zero : (nextOf (step { reading with inputs := [.answer (.okBytes [0, 0, 0, 0])] })).map State.rdata =
    some (some 0x00000000) := by decide

/-- RD-4: a long response. -/
theorem test_frmRdreq_long : (nextOf (step { reading with inputs := [.answer (.okBytes [0x00, 0x00, 0x01, 0x2C, 0x00])] })).map
    (fun t => (t.status, t.errCause, t.rdata)) = some (.busReadFailed, some (.lengthMismatch 5), none) := by decide

/-- RD-6. -/
theorem test_frmRdreq_err : (nextOf (step { reading with inputs := [.answer (.err .shortTransfer)] })).map
    (fun t => (t.status, t.errCause, t.errAddr)) =
    some (.busReadFailed, some (.bus .shortTransfer), some 0x3A4) := by decide

/-- DT-1's issue, with unused ports set (SEL-2). -/
theorem test_detect_issue : (nextOf (step (presented (.command (fullBundle 0b101))))).map (fun t => (t.txFrame, t.fsm)) =
    some (some [0x12, 0x00, 0x00, 0x50, 0x04, 0x52, 0x48, 0x4E], .probeWait) := by decide

/-- DT-4: F_SETTLE before F_REDETECT. -/
theorem test_detect_priority : (nextOf (exec .detect { State.reset with detDone := true, settleCtr := 10 })).map State.fault =
    some (some .settle) := by decide

/-- The answers to probes: DT-5 step 2 (rejected, another remains) and step 5 (the second accepted), DT-6 (the last
rejected). -/
theorem test_frmWr_probe : (nextOf (step { probing 0 0x0452484E with inputs := [.answer (.err .nack)] })).map
      (fun t => (t.settleCtr, t.probeIdx, t.fsm, t.status, t.variant)) = some (10, 1, .probeSettle, .none, .unknown) ∧
    (nextOf (step { probing 1 0x22222222 with inputs := [.answer .ok] })).map
      (fun t => (t.variant, t.detDone, t.status, t.settleCtr, t.probeIdx)) = some (.microV2, true, .ok, 10, 1) ∧
    (nextOf (step { probing 2 0x33333333 with inputs := [.answer (.err .shortTransfer)] })).map
      (fun t => (t.variant, t.detDone, t.status, t.errCause, t.fsm)) =
    some (.unknown, true, .noDeviceFound, none, .idle) := ⟨by decide, by decide, by decide⟩

/-- DT-5 step 4: the internal step sends the second probe. -/
theorem test_next_probe : (nextOf (step (settling 0))).map (fun t => (t.txFrame, t.fsm)) =
    some (some [0x12, 0x00, 0x00, 0x50, 0x22, 0x22, 0x22, 0x22], .probeWait) := by decide

/-- TK-2 and TK-4: saturates at 0. -/
theorem test_tick : (nextOf (exec (.tick 7) { State.reset with settleCtr := 6 })).map State.settleCtr = some 0 ∧
    (nextOf (exec (.tick 0xFFFFFFFF) { State.reset with settleCtr := 50 })).map State.settleCtr = some 0 := by decide

/-- SEL-1. -/
theorem test_reserved : (nextOf (step (presented (.command (fullBundle 0b111))))).map
    (fun t => (t.refused, t.fsm, t.status, t.history)) = some (some .selector, .idle, .none, [.attach]) := by decide

/-- AT-1. -/
theorem test_attach : (nextOf (step { reading with inputs := [.attach] })).map (fun t => (t.fsm, t.errAddr, t.history)) =
    some (.idle, none, [.attach, .req .writeRead [0x13, 0x00, 0x03, 0xA4] 4, .attach]) := by decide

/-- RR-1 and RR-2: reads from the launch state. -/
theorem test_reads : (nextOf (step (presented (.read .status)))).map State.readOut = some (some (.status 0)) ∧
    (nextOf (step (presented (.read .ready)))).map State.readOut = some (some (.ready true)) ∧
    (nextOf (step (presented (.read .errAddr)))).map (fun t => (t.fault, t.fsm)) =
      some (some .noValue, .faulted) := by decide

/-- L1-5: what an accepted write means for the device (20_memory R60); and a write that is never answered (log entry 18). -/
theorem test_device_effects :
    deviceEffects [.attach, .req .write [0x12, 0x00, 0x03, 0xA4, 0, 0, 0, 0] 0, .ans .ok] =
      [.memWrite 0x0003A4 0x00000000] ∧
    deviceEffects [.attach, .req .write [0x12, 0x00, 0x03, 0xA4, 0, 0, 0, 0] 0] = [.anyValue] := by decide

/-- Words of the opcode table run as the first step after reset. -/
theorem test_first_words :
    (nextOf (step (State.reset.withFetchWord 8 0b100))).map State.fsm = some .rdWait ∧
    (nextOf (step (State.reset.withFetchWord 64 0x120000500452484E))).map State.status = some .ok ∧
    (nextOf (step (State.reset.withFetchWord 32 0x13000050))).map State.status = some .busReadFailed ∧
    (nextOf (step (State.reset.withFetchWord 32 0x0000012C))).map State.rdata = some (some 0x12C) ∧
    (nextOf (step (State.reset.withFetchWord 0 0))).map State.history = some [.attach, .attach] := by decide

/-! ### Witnesses: a state and operands that meet the hypotheses of each statement -/

/-- EncWrResult, EncRdResult, DecRespResult, TickLowersSettle, ReservedSelectorRefused (second clause), AttachResets (first
clause), HostReads. -/
theorem witness_live : (writing .ordinary).cfg.wf = true ∧ (writing .ordinary).quiescent = false := by decide

/-- TickLowersSettle: at, above and below the count. -/
theorem witness_tick_bounds : ((5 : Value).toNat ≤ 5) ∧ ((5 : Value).toNat ≤ 6) ∧ ¬((5 : Value).toNat ≤ 4) := by decide

/-- WrIssue, RdIssue. -/
theorem witness_issue :
    State.reset.cfg.wf = true ∧ State.reset.fault = none ∧ State.reset.fsm = .idle ∧ State.reset.settleCtr = 0 := by decide

/-- IssueCheckFaults and FaultedHasNoStep: a faulted state; a busy state; an idle state with the least pending window. -/
theorem witness_issue_faults :
    ((∃ a, Instr.rd 0x50 = .rd a) ∧ (raiseFault .busy State.reset).cfg.wf = true ∧
      (raiseFault .busy State.reset).quiescent = true) ∧
    (reading.quiescent = false ∧ reading.fsm ≠ .idle) ∧
    (State.quiescent { State.reset with settleCtr := 1 } = false ∧ State.fsm { State.reset with settleCtr := 1 } = .idle ∧
      0 < State.settleCtr { State.reset with settleCtr := 1 }) := ⟨⟨⟨_, rfl⟩, by decide⟩, by decide, by decide⟩

/-- WriteAnsweredOk, for each class. -/
theorem witness_write_ok (cls : SettleClass) : (writing cls).cfg.wf = true ∧ (writing cls).fault = none ∧
    (writing cls).fsm = .wrWait ∧ (writing cls).txFrame = some (encWrFrame 0x38C 0x40444648) ∧
    (writing cls).curCls = some cls ∧ State.rx { writing cls with rx := some .ok } = some .ok :=
  ⟨by cases cls <;> decide, rfl, rfl, rfl, rfl, rfl⟩

/-- WriteAnsweredErr. -/
theorem witness_write_err : State.rx { writing .shutter with rx := some (.err .nack) } = some (.err .nack) ∧
    (writing .shutter).curCls = some .shutter ∧ (writing .shutter).fsm = .wrWait ∧ (writing .shutter).cfg.wf = true ∧
    (writing .shutter).fault = none ∧ (writing .shutter).txFrame = some (encWrFrame 0x38C 0x40444648) := by decide

/-- ReadAnsweredValue, ReadRequestAnsweredOk, ReadAnsweredWrongLength (0, 3 and 5 bytes), ReadAnsweredErr: the read in flight,
with each answer on the line. -/
theorem witness_read (ans : Answer) : State.cfg { reading with rx := some ans } = Params.production ∧
    Params.production.wf = true ∧ State.fault { reading with rx := some ans } = none ∧
    State.fsm { reading with rx := some ans } = .rdWait ∧
    State.txFrame { reading with rx := some ans } = some (encRdFrame 0x3A4) ∧
    State.rx { reading with rx := some ans } = some ans := ⟨rfl, by decide, rfl, rfl, rfl, rfl⟩

/-- ReadAnsweredWrongLength, NoFailureSwallowed, DeviceEffectsOfTransactions: no byte, three bytes, five bytes. -/
theorem witness_wrong_lengths : ([] : List Byte).length ≠ 4 ∧ ([0, 1, 0x2C] : List Byte).length ≠ 4 ∧
    ([0, 0, 1, 0x2C, 0] : List Byte).length ≠ 4 := by decide

/-- UnansweredFrameHolds: each disjunct of each clause, an answer of the wrong kind among them. -/
theorem witness_unanswered : (∃ r, State.rx { writing .ordinary with rx := some (.okBytes [0]) } = some (.okBytes r)) ∧
    State.rx { reading with rx := some .ok } = some .ok ∧ State.reset.txFrame ≠ some (encWrFrame 0x50 1) ∧ (writing .ordinary).rx = none ∧
    State.reset.fsm ≠ .wrWait ∧ State.reset.fsm ≠ .probeWait ∧ State.reset.fsm ≠ .rdWait ∧ reading.rx = none :=
  ⟨⟨_, rfl⟩, by decide⟩

/-- ProbeListIsOrdered: both kinds of configuration. -/
theorem witness_probe_list : Params.production.probeEnableAll = false ∧ Params.production.wf = true ∧
    threeProbes.probeEnableAll = true ∧ threeProbes.magicMicroV2 = some 0x22222222 ∧
    threeProbes.magicNano90 = some 0x33333333 ∧ threeProbes.wf = true := by decide

/-- DetectIssue, and RedetectFaults (first clause). -/
theorem witness_detect : State.reset.cfg.wf = true ∧ State.reset.fault = none ∧ State.reset.fsm = .idle ∧
    State.reset.settleCtr = 0 ∧ State.reset.detDone = false ∧ State.detDone { State.reset with detDone := true } = true := by
  decide

/-- RedetectFaults (second clause): ATTACH after a DETECT. -/
theorem witness_redetect : ∃ s t, step s = .next t ∧ s.detDone = true ∧ t.detDone = false :=
  ⟨{ presented .attach with detDone := true }, _, rfl, rfl, rfl⟩

/-- ProbeAnsweredOk, ProbeRejectedMovesOn, LastProbeRejected, at the first and the last index. -/
theorem witness_probes : threeProbes.wf = true ∧ (probing 0 0x0452484E).fault = none ∧ (probing 0 0x0452484E).fsm = .probeWait ∧
    (probeList (probing 0 0x0452484E).cfg)[(probing 0 0x0452484E).probeIdx]? = some (.microV1, 0x0452484E) ∧
    (probing 0 0x0452484E).probeIdx + 1 < (probeList threeProbes).length ∧
    (probing 2 0x33333333).probeIdx + 1 = (probeList threeProbes).length ∧
    (probeList (probing 2 0x33333333).cfg)[(probing 2 0x33333333).probeIdx]? = some (.nano90, 0x33333333) ∧
    (probing 2 0x33333333).txFrame = some (encWrFrame 0x000050 0x33333333) ∧
    State.rx { probing 2 0x33333333 with rx := some (.err .nack) } = some (.err .nack) := by decide

/-- InterProbeSettle: the window pending (1) and over (0). -/
theorem witness_settle : (settling 1).cfg.wf = true ∧ (settling 1).fault = none ∧ (settling 1).fsm = .probeSettle ∧
    0 < (settling 1).settleCtr ∧ (settling 1).settleCtr ≤ (1 : Value).toNat ∧ (settling 0).settleCtr = 0 ∧
    (probeList (settling 0).cfg)[(settling 0).probeIdx]? = some (.microV2, 0x22222222) := by decide

/-- DetectClassifies: three answers, the second accepted. -/
theorem witness_classifies : ∃ (s : State) (as : List Answer) (rest : List Input), s.cfg.wf = true ∧
    s.cfg.settleOrdinary < 2 ^ 32 ∧ s.fault = none ∧ s.fsm = .idle ∧ s.settleCtr = 0 ∧ s.detDone = false ∧
    s.variant = .unknown ∧ as.length = (probeList s.cfg).length ∧ (∀ a ∈ as, answersWrite a = true) ∧
    s.inputs = .command (bareBundle 0b101) :: (probeRounds s.cfg.settleOrdinary as ++ rest) :=
  ⟨{ State.reset with
      cfg := threeProbes
      inputs := .command (bareBundle 0b101) :: (probeRounds 10 [.err .nack, .ok, .err .other] ++ [.attach]) },
    [.err .nack, .ok, .err .other], [.attach], by decide, by decide, rfl, rfl, rfl, rfl, rfl, rfl, by decide, rfl⟩

/-- The selector clauses of EncWrResult, EncRdResult, DecRespResult, WrIssue, RdIssue, DetectIssue, TickLowersSettle and
ReservedSelectorRefused: a bundle with each selector and every other port set. -/
theorem witness_bundles (c : Code) : (fullBundle c).sel = c := rfl

/-- UnusedPortsIgnored: two DETECT bundles that differ in every operand port. -/
theorem witness_unused_ports : (fullBundle 0b101).sel = (bareBundle 0b101).sel ∧
    (fullBundle 0b101).addr ≠ (bareBundle 0b101).addr := by decide

/-- AttachResets (second clause), FaultedHasNoStep, MarksAreSticky (second clause). -/
theorem witness_faulted : (raiseFault .settle State.reset).cfg.wf = true ∧
    (raiseFault .settle State.reset).quiescent = true ∧ (raiseFault .settle State.reset).fault.isSome = true := by decide

/-- LateAnswerDiscarded (first clause): an answer in IDLE, and one in PROBE_SETTLE. -/
theorem witness_stray : State.reset.cfg.wf = true ∧ State.reset.quiescent = false ∧ State.reset.fsm = .idle ∧
    State.inputs (presented (.answer .ok)) = .answer .ok :: [] ∧ (settling 1).cfg.wf = true ∧
    (settling 1).quiescent = false ∧ (settling 1).fsm = .probeSettle ∧
    State.inputs { settling 1 with inputs := [.answer .ok] } = .answer .ok :: [] := by decide

/-- LateAnswerDiscarded (second clause): ATTACH during a read, then its answer. -/
theorem witness_late : State.cfg reading = Params.production ∧ reading.quiescent = false ∧
    State.inputs { reading with inputs := [.attach, .answer (.okBytes [0, 0, 0, 1])] } =
      .attach :: .answer (.okBytes [0, 0, 0, 1]) :: [] := by decide

/-- HostReads: registers that hold a value, and registers that hold none. -/
theorem witness_reads : State.rdata { State.reset with rdata := some 0 } = some 0 ∧
    State.errCause { State.reset with errCause := some (.lengthMismatch 3) } = some (.lengthMismatch 3) ∧
    reading.errAddr = some 0x3A4 ∧ State.reset.rdata = none ∧ State.reset.errCause = none ∧
    State.reset.errAddr = none := by decide

/-- ReadyMeetsNoIssueFault (third clause), FramesDependOnOperands, WrRdIgnoreVariant. -/
theorem witness_ready : ∃ t, exec (.wr .ordinary 0x50 1) State.reset = .next t ∧ State.reset.ready = true ∧
    State.reset.fault = none ∧ t.fault = none := ⟨_, rfl, by decide, rfl, rfl⟩

theorem witness_ready_rd : ∃ t, exec (.rd 0x50) State.reset = .next t ∧ t.fault = none := ⟨_, rfl, rfl⟩

/-- StepRunsDecodedInstruction: each clause. -/
theorem witness_step : State.inputs (presented (.command (bareBundle 0))) = .command (bareBundle 0) :: [] ∧
    State.inputs (presented .attach) = .attach :: [] ∧
    (State.inputs { writing .ordinary with inputs := [.answer .ok] } = .answer .ok :: [] ∧
      (writing .ordinary).fsm = .wrWait ∧ (writing .ordinary).txFrame = some (encWrFrame 0x38C 0x40444648)) ∧
    State.inputs { reading with inputs := [.answer (.okBytes [0, 0, 1, 0x2C])] } = .answer (.okBytes [0, 0, 1, 0x2C]) :: [] ∧
    (State.inputs { reading with inputs := [.answer (.err .nack)] } = .answer (.err .nack) :: [] ∧
      reading.fsm = .rdWait ∧ reading.txFrame = some (encRdFrame 0x3A4)) ∧
    State.inputs (presented (.read .status)) = .read .status :: [] ∧
    State.inputs (presented .quiet) = .quiet :: [] ∧ State.reset.inputs = [] := by decide

/-- ConfigurationRefused (second and third clauses). -/
theorem witness_illFormed : Params.wf { Params.production with probeEnableAll := true } = false := by decide

/-- MarksAreSticky (first clause). -/
theorem witness_refused : ∃ s t, step s = .next t ∧ s.refused.isSome = true :=
  ⟨{ presented .attach with refused := some .selector }, _, rfl, rfl⟩

/-- FaultEntryIsPrecise, for each reason. -/
theorem witness_fault_entry (r : FaultReason) : ∃ s t, s.fault = none ∧ step s = .next t ∧ t.fault = some r := by
  cases r with
  | busy => exact ⟨{ reading with inputs := [.command (bareBundle 0b100)] }, _, rfl, rfl, rfl⟩
  | settle => exact ⟨{ presented (.command (bareBundle 0b011)) with settleCtr := 1 }, _, rfl, rfl, rfl⟩
  | redetect => exact ⟨{ presented (.command (bareBundle 0b101)) with detDone := true }, _, rfl, rfl, rfl⟩
  | noValue => exact ⟨presented (.read .rdata), _, rfl, rfl, rfl⟩

/-- VariantChangesOnlyByDetectOrAttach: both ways. -/
theorem witness_variant_accepted : ∃ s t, step s = .next t ∧ t.variant ≠ s.variant ∧ nextInput s = .answer .ok :=
  ⟨{ probing 0 0x0452484E with inputs := [.answer .ok] }, _, rfl, by decide, rfl⟩

theorem witness_variant_attach : ∃ s t, step s = .next t ∧ t.variant ≠ s.variant ∧ nextInput s = .attach :=
  ⟨{ presented .attach with variant := .microV1 }, _, rfl, by decide, rfl⟩

/-- OnlyCompletionsWriteResults, OnlyIssueStepsSend, ConfigurationIsFixed, WaitEndsOnlyByAnswerOrAttach: a TICK while a write
is in flight. -/
theorem witness_wait : ∃ s t, waiting s.fsm = true ∧ step s = .next t ∧ nextInput s ≠ .attach ∧
    (∀ a, nextInput s ≠ .answer a) :=
  ⟨{ writing .ordinary with inputs := [.command (bareBundle 0b110)] }, _, rfl, rfl, by decide, by intro a; simp [nextInput]⟩

/-- A write in flight meets the invariant. -/
theorem witness_inv_writing : (writing .ordinary).Inv where
  faultMark := by decide
  answerTaken := rfl
  frameLegal := by intro f h; cases h; decide
  addressKnown := rfl
  writeInFlight := fun _ => ⟨_, _, rfl, rfl, rfl⟩
  readInFlight := by intro h; cases h
  probeInFlight := by intro h; cases h
  probeRemains := by intro h; cases h
  probing := by rintro (h | h) <;> cases h
  settleOver := fun _ => rfl
  settleBound := by intro m h; cases h
  variantReach := rfl
  undetected := fun _ => rfl
  causeKnown := rfl
  dataOk := by intro h; cases h
  historyLegal := by decide
  waitingOutstanding := fun _ => rfl
  settledAnswered := by rintro (h | h) <;> cases h

/-- A read in flight meets the invariant. -/
theorem witness_inv_reading : reading.Inv where
  faultMark := by decide
  answerTaken := rfl
  frameLegal := by intro f h; cases h; decide
  addressKnown := rfl
  writeInFlight := by intro h; cases h
  readInFlight := fun _ => ⟨_, rfl, rfl⟩
  probeInFlight := by intro h; cases h
  probeRemains := by intro h; cases h
  probing := by rintro (h | h) <;> cases h
  settleOver := fun _ => rfl
  settleBound := by intro m h; cases h
  variantReach := rfl
  undetected := fun _ => rfl
  causeKnown := rfl
  dataOk := by intro h; cases h
  historyLegal := by decide
  waitingOutstanding := fun _ => rfl
  settledAnswered := by rintro (h | h) <;> cases h

/-- StepKeepsInvariant, DutifulHostStaysClean: the write in flight is answered. -/
theorem witness_dutiful : ∃ s t, s.Inv ∧ s.cfg.wf = true ∧ s.clean = true ∧ hostDuty s (nextInput s) = true ∧
    step s = .next t :=
  ⟨{ writing .ordinary with inputs := [.answer (.err .nack)] }, _,
    { witness_inv_writing with }, by decide, rfl, rfl, rfl⟩

/-- NoFailureSwallowed: the write in flight, with any answer (`Ok` and `Err` among them). -/
theorem witness_write_answer (ans : Answer) : ∃ s : State, s.Inv ∧ s.cfg.wf = true ∧ s.inputs = .answer ans :: [] ∧
    s.fsm = .wrWait :=
  ⟨{ writing .ordinary with inputs := [.answer ans] }, { witness_inv_writing with }, test_wf_params_production, rfl, rfl⟩

/-- NoFailureSwallowed: the read in flight, with any answer: four bytes, the lengths of `witness_wrong_lengths`, `Err`. -/
theorem witness_read_answer (ans : Answer) : ∃ s : State, s.Inv ∧ s.cfg.wf = true ∧ s.inputs = .answer ans :: [] ∧
    s.fsm = .rdWait :=
  ⟨{ reading with inputs := [.answer ans] }, { witness_inv_reading with }, test_wf_params_production, rfl, rfl⟩

/-- FramesDependOnOperands, ReachableVariants: a run of one step from a launch state. -/
theorem witness_run : ∃ t, Sys2Proof.core.run 1 { State.launch threeProbes with inputs := [.command (bareBundle 0b101)] } =
    .next t ∧ threeProbes.probeEnableAll = true := ⟨_, rfl, by decide⟩

/-- DeviceEffectsOfTransactions. -/
theorem witness_outstanding : outstanding [.attach] = false := by decide

/-- TicksOpenTheWindow: two TICKs. -/
theorem witness_ticks : ∃ (s : State) (ns : List Value) (rest : List Input), s.cfg.wf = true ∧ s.fault = none ∧
    s.fsm = .idle ∧ s.inputs = (ns.map fun n => .command { bareBundle 0b110 with data := n }) ++ rest :=
  ⟨{ State.reset with
      settleCtr := 10
      inputs := [.command { bareBundle 0b110 with data := 4 }, .command { bareBundle 0b110 with data := 6 }] },
    [4, 6], [], by decide, rfl, rfl, rfl⟩

end Sys2Proof.Tests
end

section
/-! Proofs for 00_scope: the configuration's check in the words of R7, and that every instruction and every step does its
work inside `running`, where the check stands. -/

namespace Sys2Proof

/-- The check of 00_scope R7, clause by clause. -/
theorem Params.wf_iff (p : Params) :
    p.wf = true ↔
      (p.probeEnableAll = false ∨ ∃ m2 m3, p.magicMicroV2 = some m2 ∧ p.magicNano90 = some m3) ∧
      ∀ m, p.settleCtrMax = some m → p.settleOrdinary ≤ m ∧ p.settleShutter ≤ m ∧ p.settleRead ≤ m := by
  unfold Params.wf
  rw [Bool.and_eq_true]
  refine and_congr ?magics ?settleMax
  case magics => simp [Option.isSome_iff_exists]
  case settleMax => cases p.settleCtrMax <;> simp

end Sys2Proof

namespace Sys2Proof.Machine

/-- Every instruction is some operation inside `running`. -/
theorem exec_eq_running (i : Instr) (s : State) : ∃ o, exec i s = running s o := by
  cases i <;> exact ⟨_, rfl⟩

/-- Every step, whatever its event, is some operation inside `running`. -/
theorem step_eq_running (s : State) : ∃ o, step s = running (beginStep s) o := by
  unfold step
  cases fetched s with
  | instr i => exact exec_eq_running i (beginStep s)
  | read r => exact ⟨_, rfl⟩
  | internal => exact ⟨_, rfl⟩
  | strayAnswer => exact ⟨_, rfl⟩

theorem exec_of_illFormed {s : State} (hc : s.cfg.wf = false) (i : Instr) : exec i s = .refused .config := by
  obtain ⟨o, ho⟩ := exec_eq_running i s
  rw [ho, running_of_illFormed hc]

theorem step_of_illFormed {s : State} (hc : s.cfg.wf = false) : step s = .refused .config := by
  obtain ⟨o, ho⟩ := step_eq_running s
  have hbegin : (beginStep s).cfg.wf = false := hc
  rw [ho, running_of_illFormed hbegin]

/-- The launch state is marked before the first step exactly when R7's check fails (60_exceptions R154). -/
@[simp] theorem launch_refused (p : Params) :
    (State.launch p).refused = if p.wf then none else some .config := rfl

/-- Settles O38: the check is R7's by `Params.wf_iff`; nothing runs outside `running`, which refuses when the check fails. -/
theorem configurationRefused : Obligations.ConfigurationRefused := by
  refine ⟨Params.wf_iff, fun s hc => ?_, fun p hp => ?_⟩
  · exact ⟨step_of_illFormed hc, exec_of_illFormed hc⟩
  · simp [hp]

end Sys2Proof.Machine
end

section
/-! Proofs for 10_state R33: the refused mark over every move of the machine, and that a step starts outside a fault. -/

namespace Sys2Proof.Machine

/-- A move leaves the refused mark alone, or sets it for selector 111 (30_encoding R78). -/
theorem Move.refused_eq {s t : State} (h : Move s t) : t.refused = s.refused ∨ t.refused = some .selector := by
  cases h
  case refuse => exact .inr (recordRefusal_refused _ _)
  all_goals exact .inl rfl

theorem Move.refused_isSome {s t : State} (h : Move s t) (hs : s.refused.isSome = true) : t.refused.isSome = true := by
  rcases h.refused_eq with ht | ht
  · rw [ht]; exact hs
  · rw [ht]; rfl

theorem fault_eq_none_of_step {s t : State} (h : step s = .next t) : s.fault = none := by
  obtain ⟨-, hlive, -⟩ := step_move h
  exact (quiescent_eq_false.1 hlive).2

/-- Settles O40: every next state is a move's, and a move comes from a state whose fault mark is not set. -/
theorem marksAreSticky : Obligations.MarksAreSticky := by
  intro s
  constructor
  · intro t h hs
    obtain ⟨-, -, hmove⟩ := step_move h
    exact hmove.refused_isSome hs
  · intro hs t h
    rw [fault_eq_none_of_step h] at hs
    cases hs

end Sys2Proof.Machine
end

section
/-! Proofs for 10_state R35: `busy` and `ready` as functions of the state, and what a bus command does by the outcome of its
issue check (41_transactions R100, 42_detector R127). -/

namespace Sys2Proof.Machine

theorem busy_eq_true {s : State} :
    s.busy = true ↔ s.fsm = .wrWait ∨ s.fsm = .rdWait ∨ s.fsm = .probeWait ∨ s.fsm = .probeSettle := by
  unfold State.busy
  cases s.fsm <;> simp

theorem ready_eq_true {s : State} : s.ready = true ↔ s.fsm = .idle ∧ s.settleCtr = 0 := by
  simp [State.ready]

/-- R35's promise: the check of R100 finds nothing when `ready = 1`. -/
theorem issueFault_of_ready {s : State} (h : s.ready = true) : issueFault s = none :=
  issueFault_eq_none.2 (ready_eq_true.1 h)

/-- When `ready = 1`, DETECT's check can find a second DETECT only. -/
theorem detectFault_of_ready {s : State} {r : FaultReason} (h : s.ready = true) (hf : detectFault s = some r) :
    r = .redetect := by
  obtain ⟨hidle, hsettle⟩ := ready_eq_true.1 h
  rcases detectFault_eq_some.1 hf with ⟨-, hbusy⟩ | ⟨-, -, hwindow⟩ | ⟨hr, -⟩
  · exact absurd hidle hbusy
  · omega
  · exact hr

theorem exec_wr_eq_next {cls : SettleClass} {a : Addr} {v : Value} {s t : State} :
    exec (.wr cls a v) s = .next t ↔ s.cfg.wf = true ∧ s.quiescent = false ∧
      ((∃ r, issueFault s = some r ∧ t = raiseFault r s) ∨ (issueFault s = none ∧ t = issueWrite cls a v s)) := by
  refine running_eq_next.trans (and_congr_right fun _ => and_congr_right fun _ => ?_)
  cases issueFault s <;> simp [eq_comm]

theorem exec_rd_eq_next {a : Addr} {s t : State} :
    exec (.rd a) s = .next t ↔ s.cfg.wf = true ∧ s.quiescent = false ∧
      ((∃ r, issueFault s = some r ∧ t = raiseFault r s) ∨ (issueFault s = none ∧ t = issueRead a s)) := by
  refine running_eq_next.trans (and_congr_right fun _ => and_congr_right fun _ => ?_)
  cases issueFault s <;> simp [eq_comm]

theorem exec_detect_eq_next {s t : State} :
    exec .detect s = .next t ↔ s.cfg.wf = true ∧ s.quiescent = false ∧
      ((∃ r, detectFault s = some r ∧ t = raiseFault r s) ∨
        (detectFault s = none ∧ sendProbe { s with probeIdx := 0 } = .next t)) := by
  refine running_eq_next.trans (and_congr_right fun _ => and_congr_right fun _ => ?_)
  cases detectFault s <;> simp [eq_comm]

theorem sendProbe_fault {s t : State} (h : sendProbe s = .next t) : t.fault = s.fault := by
  obtain ⟨p, -, rfl⟩ := sendProbe_eq_next.1 h
  rfl

theorem wr_fault_of_ready {cls : SettleClass} {a : Addr} {v : Value} {s t : State} (hr : s.ready = true)
    (h : exec (.wr cls a v) s = .next t) : t.fault = s.fault := by
  obtain ⟨-, -, ⟨r, hf, -⟩ | ⟨-, rfl⟩⟩ := exec_wr_eq_next.1 h
  · rw [issueFault_of_ready hr] at hf; cases hf
  · exact issueWrite_fault ..

theorem rd_fault_of_ready {a : Addr} {s t : State} (hr : s.ready = true) (h : exec (.rd a) s = .next t) :
    t.fault = s.fault := by
  obtain ⟨-, -, ⟨r, hf, -⟩ | ⟨-, rfl⟩⟩ := exec_rd_eq_next.1 h
  · rw [issueFault_of_ready hr] at hf; cases hf
  · exact issueRead_fault ..

theorem detect_fault_of_ready {s t : State} (hr : s.ready = true) (h : exec .detect s = .next t) :
    t.fault = some .redetect ∨ t.fault = s.fault := by
  obtain ⟨-, -, ⟨r, hf, rfl⟩ | ⟨-, hsend⟩⟩ := exec_detect_eq_next.1 h
  · exact .inl (congrArg some (detectFault_of_ready hr hf))
  · have hsame := sendProbe_fault hsend
    exact .inr hsame

/-- Settles O36: the check of R100 finds nothing when `ready = 1`, so a command sets no fault mark, or F_REDETECT's. -/
theorem readyMeetsNoIssueFault : Obligations.ReadyMeetsNoIssueFault := by
  refine ⟨fun _ => busy_eq_true, fun _ => ready_eq_true, fun s t i hbus hready hfault h => ?_⟩
  rcases hbus with ⟨cls, a, v, rfl⟩ | ⟨a, rfl⟩ | rfl
  · simp [wr_fault_of_ready hready h, hfault]
  · simp [rd_fault_of_ready hready h, hfault]
  · rcases detect_fault_of_ready hready h with ht | ht
    · simp [ht]
    · simp [ht, hfault]

end Sys2Proof.Machine
end

section
/-! Proofs for 20_memory R66: the frame an accepted WR or RD sends, told by its operands alone. -/

namespace Sys2Proof.Machine

/-- A WR that sets no fault mark was accepted (41_transactions R101). -/
theorem wr_accepted {cls : SettleClass} {a : Addr} {v : Value} {s t : State} (h : exec (.wr cls a v) s = .next t)
    (ht : t.fault = none) : t = issueWrite cls a v s := by
  obtain ⟨-, -, ⟨r, -, rfl⟩ | ⟨-, rfl⟩⟩ := exec_wr_eq_next.1 h
  · cases ht
  · rfl

/-- An RD that sets no fault mark was accepted (41_transactions R104). -/
theorem rd_accepted {a : Addr} {s t : State} (h : exec (.rd a) s = .next t) (ht : t.fault = none) :
    t = issueRead a s := by
  obtain ⟨-, -, ⟨r, -, rfl⟩ | ⟨-, rfl⟩⟩ := exec_rd_eq_next.1 h
  · cases ht
  · rfl

theorem wr_txFrame {cls : SettleClass} {a : Addr} {v : Value} {s t : State} (h : exec (.wr cls a v) s = .next t)
    (ht : t.fault = none) : t.txFrame = some (encWrFrame a v) := by
  rw [wr_accepted h ht, issueWrite_txFrame]

theorem rd_txFrame {a : Addr} {s t : State} (h : exec (.rd a) s = .next t) (ht : t.fault = none) :
    t.txFrame = some (encRdFrame a) := by
  rw [rd_accepted h ht, issueRead_txFrame]

/-- Settles O48: each frame is the encoding of the operands, in which neither the state nor the class stands. -/
theorem framesDependOnOperands : Obligations.FramesDependOnOperands := by
  intro s s' t t' ht ht'
  refine ⟨fun cls cls' a v h h' => ?_, fun a h h' => ?_⟩
  · rw [wr_txFrame h ht, wr_txFrame h' ht']
  · rw [rd_txFrame h ht, rd_txFrame h' ht']

end Sys2Proof.Machine
end

section
/-! Proofs for the frame tables of 30_encoding (R71 to R73): the lanes of each frame, and the value of a response. -/

namespace Sys2Proof

theorem encWrFrame_lanes (a : Addr) (v : Value) :
    encWrFrame a v =
      [0x12, a.extractLsb' 16 8, a.extractLsb' 8 8, a.extractLsb' 0 8,
        v.extractLsb' 24 8, v.extractLsb' 16 8, v.extractLsb' 8 8, v.extractLsb' 0 8] := rfl

theorem encRdFrame_lanes (a : Addr) :
    encRdFrame a = [0x13, a.extractLsb' 16 8, a.extractLsb' 8 8, a.extractLsb' 0 8] := rfl

theorem valueBytes_lanes (v : Value) :
    valueBytes v = [v.extractLsb' 24 8, v.extractLsb' 16 8, v.extractLsb' 8 8, v.extractLsb' 0 8] := rfl

/-- There is no reserved response (30_encoding R73): four bytes are the response of the value they join to. -/
@[simp] theorem decodeResponse_four (r0 r1 r2 r3 : Byte) :
    decodeResponse [r0, r1, r2, r3] = .ok (.frmRdresp (joinValue r0 r1 r2 r3)) := rfl

/-- Settles O6: `encode` puts each frame on its wires with the lanes of its table; a response's value is `joinValue` of its
bytes. -/
theorem frameLanes : Obligations.FrameLanes := by
  refine ⟨fun a v => ?write, fun a => ?readRequest, fun v => ?response, fun r0 r1 r2 r3 => ?everyResponse⟩
  case write => exact congrArg Signal.request (encWrFrame_lanes a v)
  case readRequest => exact congrArg Signal.request (encRdFrame_lanes a)
  case response => exact congrArg Signal.response (valueBytes_lanes v)
  case everyResponse => exact ⟨joinValue r0 r1 r2 r3, decodeResponse_four r0 r1 r2 r3⟩

end Sys2Proof
end

section
/-! Proofs for 30_encoding R78: selector 111 is the reserved command, and the reserved command is refused. -/

namespace Sys2Proof

theorem decodeBundle_sel7 {b : Bundle} (h : b.sel = 0b111) : decodeBundle b = .reservedSel7 := by
  simp [decodeBundle, h]

end Sys2Proof

namespace Sys2Proof.Machine

/-- Outside a fault the reserved command is the refusal alone (60_exceptions R154). -/
theorem exec_reservedSel7_of_live {s : State} (hc : s.cfg.wf = true) (hq : s.quiescent = false) :
    exec .reservedSel7 s = .next (recordRefusal .selector s) :=
  running_of_live hc hq _

/-- Settles O31: the decoder's last case is selector 111, and `recordRefusal` writes the refused mark only. -/
theorem reservedSelectorRefused : Obligations.ReservedSelectorRefused :=
  ⟨fun _ hsel => decodeBundle_sel7 hsel, fun _ hc hq => exec_reservedSel7_of_live hc hq⟩

end Sys2Proof.Machine
end

section
/-! Proofs for the pure codec commands (40_codec R90 to R92): the selector of each, what each does outside a fault, and
`dec_resp` in shifts. -/

namespace Sys2Proof

theorem decodeBundle_sel0 {b : Bundle} (h : b.sel = 0b000) : decodeBundle b = .encWr b.addr b.data := by
  simp [decodeBundle, h]

theorem decodeBundle_sel1 {b : Bundle} (h : b.sel = 0b001) : decodeBundle b = .encRd b.addr := by
  simp [decodeBundle, h]

theorem decodeBundle_sel2 {b : Bundle} (h : b.sel = 0b010) :
    decodeBundle b = .decResp b.lane0 b.lane1 b.lane2 b.lane3 := by
  simp [decodeBundle, h]

/-- At any width, a concatenation is its upper part shifted past the lower part, or the lower part. -/
theorem setWidth_append_eq_shiftLeft_or {n m : Nat} (x : BitVec n) (y : BitVec m) (k : Nat) :
    (x ++ y).setWidth k = x.setWidth k <<< m ||| y.setWidth k := by
  ext i hi
  by_cases hlow : i < m
  · simp [BitVec.getLsbD_append, hlow]
  · have hy : y.getLsbD i = false := BitVec.getLsbD_of_ge y i (Nat.le_of_not_lt hlow)
    simp [BitVec.getLsbD_append, hlow, hy]

/-- The two forms that R92 gives of `dec_resp` agree. -/
theorem joinValue_eq_shiftLeft_or (r0 r1 r2 r3 : Byte) :
    joinValue r0 r1 r2 r3 =
      r0.setWidth 32 <<< 24 ||| r1.setWidth 32 <<< 16 ||| r2.setWidth 32 <<< 8 ||| r3.setWidth 32 := by
  calc joinValue r0 r1 r2 r3
    _ = (r0 ++ r1 ++ r2 ++ r3).setWidth 32 := (BitVec.setWidth_eq _).symm
    _ = ((r0.setWidth 32 <<< 8 ||| r1.setWidth 32) <<< 8 ||| r2.setWidth 32) <<< 8 ||| r3.setWidth 32 := by
      simp only [setWidth_append_eq_shiftLeft_or]
    _ = _ := by simp only [BitVec.shiftLeft_or_distrib, ← BitVec.shiftLeft_add]

end Sys2Proof

namespace Sys2Proof.Machine

section live
variable {s : State} (hc : s.cfg.wf = true) (hq : s.quiescent = false)
include hc hq

theorem exec_encWr_of_live (a : Addr) (v : Value) :
    exec (.encWr a v) s = .next { s with encOut := some (encWrFrame a v) } :=
  running_of_live hc hq _

theorem exec_encRd_of_live (a : Addr) : exec (.encRd a) s = .next { s with encOut := some (encRdFrame a) } :=
  running_of_live hc hq _

theorem exec_decResp_of_live (r0 r1 r2 r3 : Byte) :
    exec (.decResp r0 r1 r2 r3) s = .next { s with decOut := some (joinValue r0 r1 r2 r3) } :=
  running_of_live hc hq _

end live

/-- Settles O9: outside a fault ENC_WR drives `enc_out` alone, with the lanes of R71's table. -/
theorem encWrResult : Obligations.EncWrResult := by
  refine ⟨fun _ hsel => decodeBundle_sel0 hsel, fun s a v hc hq => ?_⟩
  rw [exec_encWr_of_live hc hq, encWrFrame_lanes]

/-- Settles O10: outside a fault ENC_RD drives `enc_out` alone, with the lanes of R72's table. -/
theorem encRdResult : Obligations.EncRdResult := by
  refine ⟨fun _ hsel => decodeBundle_sel1 hsel, fun s a hc hq => ?_⟩
  rw [exec_encRd_of_live hc hq, encRdFrame_lanes]

/-- Settles O11: outside a fault DEC_RESP drives `dec_out` alone, with the concatenated lanes, which are R92's shifts. -/
theorem decRespResult : Obligations.DecRespResult := by
  refine ⟨fun _ hsel => decodeBundle_sel2 hsel, fun s r0 r1 r2 r3 hc hq => ?_⟩
  rw [exec_decResp_of_live hc hq, joinValue_eq_shiftLeft_or]

end Sys2Proof.Machine
end

section
/-! Proofs for the issue of WR, RD and DETECT (41_transactions R100, R101, R104, R111): what a bus command does by the outcome
of its issue check. -/

namespace Sys2Proof

theorem decodeBundle_sel3 {b : Bundle} (h : b.sel = 0b011) :
    decodeBundle b = .wr (if b.cls = 1 then .shutter else .ordinary) b.addr b.data := by
  simp [decodeBundle, h, clsOfPort]

theorem decodeBundle_sel4 {b : Bundle} (h : b.sel = 0b100) : decodeBundle b = .rd b.addr := by
  simp [decodeBundle, h]

end Sys2Proof

namespace Sys2Proof.Machine

theorem quiescent_eq_false_of_idle {s : State} (hfault : s.fault = none) (hidle : s.fsm = .idle) :
    s.quiescent = false :=
  quiescent_eq_false.2 ⟨by simp [hidle], hfault⟩

theorem exec_of_quiescent {s : State} (hc : s.cfg.wf = true) (hq : s.quiescent = true) (i : Instr) :
    exec i s = .fault (.quiescent s.fault) := by
  obtain ⟨o, ho⟩ := exec_eq_running i s
  rw [ho, running_of_quiescent hc hq]

/-- DETECT asks the check of R100 before its own (42_detector R127). -/
theorem detectFault_of_issueFault {s : State} {r : FaultReason} (hf : issueFault s = some r) :
    detectFault s = some r :=
  detectFault_eq_some.2 ((issueFault_eq_some.1 hf).imp_right .inl)

section live
variable {s : State} (hc : s.cfg.wf = true) (hq : s.quiescent = false)
include hc hq

section busCommand
variable {i : Instr} (hbus : (∃ cls a v, i = .wr cls a v) ∨ (∃ a, i = .rd a) ∨ i = .detect)
include hbus

/-- A bus command that its check stops is fault entry alone, with the reason the check gives. -/
theorem exec_of_issueFault {r : FaultReason} (hf : issueFault s = some r) : exec i s = .next (raiseFault r s) := by
  rcases hbus with ⟨cls, a, v, rfl⟩ | ⟨a, rfl⟩ | rfl
  · exact exec_wr_eq_next.2 ⟨hc, hq, .inl ⟨r, hf, rfl⟩⟩
  · exact exec_rd_eq_next.2 ⟨hc, hq, .inl ⟨r, hf, rfl⟩⟩
  · exact exec_detect_eq_next.2 ⟨hc, hq, .inl ⟨r, detectFault_of_issueFault hf, rfl⟩⟩

/-- R100's first question: is the block idle? -/
theorem exec_of_busy (hbusy : s.fsm ≠ .idle) : exec i s = .next (raiseFault .busy s) :=
  exec_of_issueFault hc hq hbus (issueFault_eq_some.2 (.inl ⟨rfl, hbusy⟩))

/-- R100's second question: is a settle window pending? -/
theorem exec_of_settling (hidle : s.fsm = .idle) (hwindow : 0 < s.settleCtr) :
    exec i s = .next (raiseFault .settle s) :=
  exec_of_issueFault hc hq hbus (issueFault_eq_some.2 (.inr ⟨rfl, hidle, hwindow⟩))

end busCommand

theorem exec_wr_of_ready (hr : s.ready = true) (cls : SettleClass) (a : Addr) (v : Value) :
    exec (.wr cls a v) s = .next (issueWrite cls a v s) :=
  exec_wr_eq_next.2 ⟨hc, hq, .inr ⟨issueFault_of_ready hr, rfl⟩⟩

theorem exec_rd_of_ready (hr : s.ready = true) (a : Addr) : exec (.rd a) s = .next (issueRead a s) :=
  exec_rd_eq_next.2 ⟨hc, hq, .inr ⟨issueFault_of_ready hr, rfl⟩⟩

end live

/-- Settles O14: one lemma for each question of R100, in its order; each fault is `raiseFault`, which writes the mark and
FAULTED only. -/
theorem issueCheckFaults : Obligations.IssueCheckFaults := by
  intro s i hbus hc
  refine ⟨fun hq => ?quiescent, fun hq hbusy => ?busy, fun hq hidle hwindow => ?settling⟩
  case quiescent => exact exec_of_quiescent hc hq i
  case busy => exact exec_of_busy hc hq hbus hbusy
  case settling => exact exec_of_settling hc hq hbus hidle hwindow

/-- Settles O12: `ready` is the check of R100, and what it lets through is `issueWrite`. -/
theorem wrIssue : Obligations.WrIssue := by
  refine ⟨fun _ hsel => decodeBundle_sel3 hsel, fun s cls a v hc hfault hidle hsettle => ?accepted,
    fun s cls a v hc hq => ?early⟩
  case accepted =>
    exact exec_wr_of_ready hc (quiescent_eq_false_of_idle hfault hidle) (ready_eq_true.2 ⟨hidle, hsettle⟩) cls a v
  case early =>
    exact ⟨exec_of_busy hc hq (.inl ⟨cls, a, v, rfl⟩), exec_of_settling hc hq (.inl ⟨cls, a, v, rfl⟩)⟩

/-- Settles O13: `ready` is the check of R100, and what it lets through is `issueRead`. -/
theorem rdIssue : Obligations.RdIssue := by
  refine ⟨fun _ hsel => decodeBundle_sel4 hsel, fun s a hc hfault hidle hsettle => ?accepted, fun s a hc hq => ?early⟩
  case accepted =>
    exact exec_rd_of_ready hc (quiescent_eq_false_of_idle hfault hidle) (ready_eq_true.2 ⟨hidle, hsettle⟩) a
  case early =>
    exact ⟨exec_of_busy hc hq (.inr (.inl ⟨a, rfl⟩)), exec_of_settling hc hq (.inr (.inl ⟨a, rfl⟩))⟩

section detection
variable (s : State) (var : Variant) (d : Bool)

/-! The check and the two issues work beside `variant` and `det_done`. -/

theorem issueFault_setDetection : issueFault { s with variant := var, detDone := d } = issueFault s := rfl

theorem raiseFault_setDetection (r : FaultReason) :
    raiseFault r { s with variant := var, detDone := d } = { raiseFault r s with variant := var, detDone := d } := rfl

theorem issueWrite_setDetection (cls : SettleClass) (a : Addr) (v : Value) :
    issueWrite cls a v { s with variant := var, detDone := d } =
      { issueWrite cls a v s with variant := var, detDone := d } := rfl

theorem issueRead_setDetection (a : Addr) :
    issueRead a { s with variant := var, detDone := d } = { issueRead a s with variant := var, detDone := d } := rfl

end detection

/-- Settles O47: either way the check goes, it and what follows it work beside `variant` and `det_done`. -/
theorem wrRdIgnoreVariant : Obligations.WrRdIgnoreVariant := by
  rintro s t var d i (⟨cls, a, v, rfl⟩ | ⟨a, rfl⟩) h
  · refine exec_wr_eq_next.2 ?_
    rw [issueFault_setDetection, issueWrite_setDetection]
    obtain ⟨hc, hq, ⟨r, hf, rfl⟩ | ⟨hf, rfl⟩⟩ := exec_wr_eq_next.1 h
    · exact ⟨hc, hq, .inl ⟨r, hf, (raiseFault_setDetection s var d r).symm⟩⟩
    · exact ⟨hc, hq, .inr ⟨hf, rfl⟩⟩
  · refine exec_rd_eq_next.2 ?_
    rw [issueFault_setDetection, issueRead_setDetection]
    obtain ⟨hc, hq, ⟨r, hf, rfl⟩ | ⟨hf, rfl⟩⟩ := exec_rd_eq_next.1 h
    · exact ⟨hc, hq, .inl ⟨r, hf, (raiseFault_setDetection s var d r).symm⟩⟩
    · exact ⟨hc, hq, .inr ⟨hf, rfl⟩⟩

end Sys2Proof.Machine
end

section
/-! Proofs for 41_transactions R109: the step in which a WR or RD in flight is answered is its completion, whatever the answer,
and the completion writes the result of that answer. -/

namespace Sys2Proof

theorem joinAddr_lanes (a : Addr) :
    joinAddr (a.extractLsb' 16 8) (a.extractLsb' 8 8) (a.extractLsb' 0 8) = a := by
  rw [joinAddr, BitVec.extractLsb'_append_extractLsb'_eq_extractLsb' (by rfl),
    BitVec.extractLsb'_append_extractLsb'_eq_extractLsb' (by rfl), BitVec.extractLsb'_eq_self]

theorem joinValue_lanes (v : Value) :
    joinValue (v.extractLsb' 24 8) (v.extractLsb' 16 8) (v.extractLsb' 8 8) (v.extractLsb' 0 8) = v := by
  rw [joinValue, BitVec.extractLsb'_append_extractLsb'_eq_extractLsb' (by rfl),
    BitVec.extractLsb'_append_extractLsb'_eq_extractLsb' (by rfl),
    BitVec.extractLsb'_append_extractLsb'_eq_extractLsb' (by rfl), BitVec.extractLsb'_eq_self]

@[simp] theorem decodeRequest_encWrFrame (a : Addr) (v : Value) :
    decodeRequest (encWrFrame a v) = .ok (.frmWr a v) := by
  simp [encWrFrame_lanes, decodeRequest, Config.opWrite, joinAddr_lanes, joinValue_lanes]

@[simp] theorem decodeRequest_encRdFrame (a : Addr) : decodeRequest (encRdFrame a) = .ok (.frmRdreq a) := by
  simp [encRdFrame_lanes, decodeRequest, Config.opWrite, Config.opRead, joinAddr_lanes]

end Sys2Proof

namespace Sys2Proof.Machine

theorem nextInput_of_inputs {s : State} {x : Input} {rest : List Input} (h : s.inputs = x :: rest) :
    nextInput s = x := by simp [nextInput, h]

theorem beginStep_rx_of_answer {s : State} {ans : Answer} (h : nextInput s = .answer ans) :
    (beginStep s).rx = some ans := by simp [h, answerOf]

theorem requestInFlight_of_write {s : State} {a : Addr} {v : Value} (h : s.txFrame = some (encWrFrame a v)) :
    requestInFlight s = some (.frmWr a v) := by
  simp [requestInFlight, h, Except.toOption]

theorem requestInFlight_of_read {s : State} {a : Addr} (h : s.txFrame = some (encRdFrame a)) :
    requestInFlight s = some (.frmRdreq a) := by
  simp [requestInFlight, h, Except.toOption]

/-- An answer that stands for an instruction runs it. -/
theorem step_of_answeredInstr {s : State} {ans : Answer} {i : Instr} (hin : nextInput s = .answer ans)
    (hi : answeredInstr s ans = some i) : step s = exec i (beginStep s) := by
  simp [step, fetched, hin, hi]

/-- In a state that meets the invariant a fault is told by `fsm` alone. -/
theorem State.Inv.quiescent_eq_false {s : State} (hinv : s.Inv) (hf : s.fsm ≠ .faulted) : s.quiescent = false :=
  Machine.quiescent_eq_false.2 ⟨hf, by simpa [hf] using hinv.faultMark⟩

section live
variable {s : State} (hc : s.cfg.wf = true) (hq : s.quiescent = false)
include hc hq

theorem exec_frmWr_of_answer {ans : Answer} {a : Addr} {v : Value} (hf : s.fsm = .wrWait)
    (htx : s.txFrame = some (encWrFrame a v)) (hrx : s.rx = some ans) :
    exec (.frmWr a v) s = .next (completeWrite ans s) := by
  simp [exec, execFrmWr, running_of_live hc hq, hf, htx, hrx]

theorem exec_frmRdreq_of_answer {ans : Answer} {a : Addr} (hf : s.fsm = .rdWait)
    (htx : s.txFrame = some (encRdFrame a)) (hrx : s.rx = some ans) :
    exec (.frmRdreq a) s = .next (completeRead ans s) := by
  simp [exec, execFrmRdreq, running_of_live hc hq, hf, htx, hrx]

theorem exec_frmRdresp_of_reading (hf : s.fsm = .rdWait) (v : Value) :
    exec (.frmRdresp v) s = .next (completeRead (.okBytes (valueBytes v)) s) := by
  simp [exec, execFrmRdresp, running_of_live hc hq, hf]

end live

theorem decodeResponse_of_length_ne {r : List Byte} (hr : r.length ≠ 4) :
    decodeResponse r = .error (.responseLength r.length) := by
  rw [decodeResponse]
  rintro r0 r1 r2 r3 rfl
  exact hr rfl

theorem readResult_of_length_ne {r : List Byte} (hr : r.length ≠ 4) :
    readResult (.okBytes r) = some (.busReadFailed, some (.lengthMismatch r.length), none) := by
  rw [readResult]
  rintro r0 r1 r2 r3 rfl
  exact hr rfl

/-- In RD_WAIT a response of four bytes stands for itself (30_encoding R73). -/
theorem answeredInstr_of_four {s : State} (hf : s.fsm = .rdWait) (r0 r1 r2 r3 : Byte) :
    answeredInstr s (.okBytes [r0, r1, r2, r3]) = some (.frmRdresp (joinValue r0 r1 r2 r3)) := by
  simp [answeredInstr, hf]

/-- In RD_WAIT any other answer stands for the read request in flight. -/
theorem answeredInstr_of_not_four {s : State} {ans : Answer} (hf : s.fsm = .rdWait)
    (hans : ∀ r, ans = .okBytes r → r.length ≠ 4) : answeredInstr s ans = requestInFlight s := by
  cases ans with
  | ok => simp [answeredInstr, hf]
  | err k => simp [answeredInstr, hf]
  | okBytes r => simp [answeredInstr, hf, decodeResponse_of_length_ne (hans r rfl)]

section answered
variable {s : State} {ans : Answer} (hinv : s.Inv) (hc : s.cfg.wf = true) (hin : nextInput s = .answer ans)
include hinv hc hin

theorem step_of_write_answered (hf : s.fsm = .wrWait) : step s = .next (completeWrite ans (beginStep s)) := by
  obtain ⟨a, v, htx, -, -⟩ := hinv.writeInFlight hf
  have hq : (beginStep s).quiescent = false := hinv.quiescent_eq_false (by simp [hf])
  have hi : answeredInstr s ans = some (.frmWr a v) := by simp [answeredInstr, hf, requestInFlight_of_write htx]
  rw [step_of_answeredInstr hin hi]
  exact exec_frmWr_of_answer (s := beginStep s) hc hq hf htx (beginStep_rx_of_answer hin)

theorem step_of_read_answered (hf : s.fsm = .rdWait) : step s = .next (completeRead ans (beginStep s)) := by
  obtain ⟨a, htx, -⟩ := hinv.readInFlight hf
  have hq : (beginStep s).quiescent = false := hinv.quiescent_eq_false (by simp [hf])
  by_cases hans : ∀ r, ans = .okBytes r → r.length ≠ 4
  case pos =>
    have hi := (answeredInstr_of_not_four hf hans).trans (requestInFlight_of_read htx)
    rw [step_of_answeredInstr hin hi]
    exact exec_frmRdreq_of_answer (s := beginStep s) hc hq hf htx (beginStep_rx_of_answer hin)
  case neg =>
    push Not at hans
    obtain ⟨r, rfl, hr⟩ := hans
    obtain ⟨r0, r1, r2, r3, rfl⟩ := List.length_eq_four.1 hr
    rw [step_of_answeredInstr hin (answeredInstr_of_four hf r0 r1 r2 r3)]
    have hdone := exec_frmRdresp_of_reading (s := beginStep s) hc hq hf (joinValue r0 r1 r2 r3)
    rwa [valueBytes_joinValue] at hdone

/-- An answered WR ends in IDLE with the result of its answer, and keeps the address. -/
theorem write_answered (hf : s.fsm = .wrWait) {st : Status} {cause : Option ErrCause}
    (hr : writeResult ans = some (st, cause)) :
    ∃ t, step s = .next t ∧ t.fsm = .idle ∧ t.errAddr = s.errAddr ∧
      t.status = st ∧ t.errCause = cause ∧ t.rdata = none := by
  refine ⟨_, step_of_write_answered hinv hc hin hf, ?_⟩
  simp [completeWrite, hr]

/-- An answered RD ends in IDLE with the result of its answer, and keeps the address. -/
theorem read_answered (hf : s.fsm = .rdWait) {st : Status} {cause : Option ErrCause} {value : Option Value}
    (hr : readResult ans = some (st, cause, value)) :
    ∃ t, step s = .next t ∧ t.fsm = .idle ∧ t.errAddr = s.errAddr ∧
      t.status = st ∧ t.errCause = cause ∧ t.rdata = value := by
  refine ⟨_, step_of_read_answered hinv hc hin hf, ?_⟩
  simp [completeRead, hr]

end answered

/-- Settles O45: the answered step is the completion, and each answer's result is `writeResult`'s or `readResult`'s. -/
theorem noFailureSwallowed : Obligations.NoFailureSwallowed := by
  intro s ans rest hinv hc hinputs
  have hin := nextInput_of_inputs hinputs
  refine ⟨fun hf => ⟨?writeOk, ?writeErr⟩, fun hf => ⟨?readFour, ?readOtherLength, ?readErr⟩⟩
  case writeOk => rintro rfl; exact write_answered hinv hc hin hf rfl
  case writeErr => rintro k rfl; exact write_answered hinv hc hin hf rfl
  case readFour =>
    rintro r rfl hr
    obtain ⟨r0, r1, r2, r3, rfl⟩ := List.length_eq_four.1 hr
    obtain ⟨t, hstep, hidle, haddr, hst, hcause, hvalue⟩ := read_answered hinv hc hin hf rfl
    exact ⟨t, hstep, hidle, haddr, hst, hcause, by simp [hvalue]⟩
  case readOtherLength => rintro r rfl hr; exact read_answered hinv hc hin hf (readResult_of_length_ne hr)
  case readErr => rintro k rfl; exact read_answered hinv hc hin hf rfl

end Sys2Proof.Machine
end

section
/-! Proofs for the probe list (42_detector R120): its entries by PROBE_ENABLE_ALL, under the check of 00_scope R7. -/

namespace Sys2Proof.Machine

theorem probeList_of_disabled {p : Params} (hall : p.probeEnableAll = false) :
    probeList p = [(.microV1, Config.magicMicroV1)] := by
  simp [probeList, hall]

theorem probeList_of_enabled {p : Params} {m2 m3 : Value} (hall : p.probeEnableAll = true)
    (h2 : p.magicMicroV2 = some m2) (h3 : p.magicNano90 = some m3) :
    probeList p = [(.microV1, Config.magicMicroV1), (.microV2, m2), (.nano90, m3)] := by
  simp [probeList, hall, h2, h3]

/-- The two probe lists there are: a configuration that enables the further probes supplies their values (00_scope R7). -/
theorem probeList_cases {p : Params} (hwf : p.wf = true) :
    (p.probeEnableAll = false ∧ probeList p = [(.microV1, Config.magicMicroV1)]) ∨
    (p.probeEnableAll = true ∧
      ∃ m2 m3, probeList p = [(.microV1, Config.magicMicroV1), (.microV2, m2), (.nano90, m3)]) := by
  cases hall : p.probeEnableAll with
  | false => exact .inl ⟨rfl, probeList_of_disabled hall⟩
  | true =>
    obtain ⟨hmagics, -⟩ := p.wf_iff.1 hwf
    obtain ⟨m2, m3, h2, h3⟩ := hmagics.resolve_left (by simp [hall])
    exact .inr ⟨rfl, m2, m3, probeList_of_enabled hall h2 h3⟩

theorem probeList_length {p : Params} (hwf : p.wf = true) :
    (probeList p).length = if p.probeEnableAll then 3 else 1 := by
  obtain ⟨hall, hlist⟩ | ⟨hall, m2, m3, hlist⟩ := probeList_cases hwf <;> simp [hall, hlist]

/-- Settles O22: the two lists of R120, and 00_scope R7's check leaves no other. -/
theorem probeListIsOrdered : Obligations.ProbeListIsOrdered :=
  ⟨fun _ => probeList_of_disabled, fun _ _ _ => probeList_of_enabled, fun _ => probeList_length, rfl⟩

end Sys2Proof.Machine
end

section
/-! Proofs for 42_detector R127: a second DETECT in one attach, and that no move but ATTACH clears `det_done`. -/

namespace Sys2Proof.Machine

/-- DETECT's own check, asked once R100's has found nothing. -/
theorem exec_detect_of_detDone {s : State} (hc : s.cfg.wf = true) (hq : s.quiescent = false) (hr : s.ready = true)
    (hdone : s.detDone = true) : exec .detect s = .next (raiseFault .redetect s) := by
  obtain ⟨hidle, hsettle⟩ := ready_eq_true.1 hr
  have hcheck : detectFault s = some .redetect :=
    detectFault_eq_some.2 (.inr (.inr ⟨rfl, hidle, hsettle, hdone⟩))
  exact exec_detect_eq_next.2 ⟨hc, hq, .inl ⟨_, hcheck, rfl⟩⟩

/-- `det_done` is set by the end of a DETECT (10_state R23) and cleared by ATTACH; no other move writes it. -/
theorem Move.detDone_of_not_attach {s t : State} (h : Move s t) (hin : nextInput s ≠ .attach)
    (hdone : s.detDone = true) : t.detDone = true := by
  cases h
  case attach hattach => exact absurd hattach hin
  case accepted => exact probeAccepted_detDone ..
  case noDevice => exact noDevice_detDone ..
  all_goals exact hdone

/-- Settles O24: R100 finds nothing, so DETECT's own check answers; and a move that is no ATTACH keeps `det_done`. -/
theorem redetectFaults : Obligations.RedetectFaults := by
  refine ⟨fun s hc hfault hidle hsettle hdone => ?second, fun s t h hdone hcleared => ?cleared⟩
  case second =>
    exact exec_detect_of_detDone hc (quiescent_eq_false_of_idle hfault hidle) (ready_eq_true.2 ⟨hidle, hsettle⟩) hdone
  case cleared =>
    obtain ⟨-, -, hmove⟩ := step_move h
    by_contra hin
    simp [hmove.detDone_of_not_attach hin hdone] at hcleared

end Sys2Proof.Machine
end

section
/-! Proofs for 42_detector R130: `variant` is written from the probe list alone, and every run keeps it reachable. -/

namespace Sys2Proof.Machine

theorem variantReachable_eq_true {p : Params} {v : Variant} :
    variantReachable p v = true ↔
      v = .unknown ∨ v = .microV1 ∨ (p.probeEnableAll = true ∧ (v = .microV2 ∨ v = .nano90)) := by
  cases v <;> simp [variantReachable]

/-- The source gives Reserved and Outdated no probe. -/
theorem variantReachable_of_mem_probeList {p : Params} (hwf : p.wf = true) {e : Variant × Value}
    (he : e ∈ probeList p) : variantReachable p e.1 = true := by
  obtain ⟨-, hlist⟩ | ⟨hall, m2, m3, hlist⟩ := probeList_cases hwf
  · rw [hlist, List.mem_singleton] at he
    simp [he, variantReachable]
  · rw [hlist] at he
    simp only [List.mem_cons, List.not_mem_nil, or_false] at he
    rcases he with rfl | rfl | rfl <;> simp [variantReachable, hall]

theorem Move.cfg_eq {s t : State} (h : Move s t) : t.cfg = s.cfg := by
  cases h <;> rfl

/-- A move leaves `variant` alone, resets it, or takes it from a probe of the list (10_state R22). -/
theorem Move.variant_cases {s t : State} (h : Move s t) :
    t.variant = s.variant ∨ t.variant = .unknown ∨ ∃ e ∈ probeList s.cfg, t.variant = e.1 := by
  cases h
  case attach => exact .inr (.inl (attachState_variant _))
  case accepted e _ _ he => exact .inr (.inr ⟨e, List.mem_of_getElem? he, probeAccepted_variant ..⟩)
  all_goals exact .inl rfl

theorem step_keeps_variantReachable {s t : State} (h : step s = .next t)
    (hs : variantReachable s.cfg s.variant = true) : variantReachable t.cfg t.variant = true := by
  obtain ⟨hc, -, hmove⟩ := step_move h
  rw [hmove.cfg_eq]
  obtain hsame | hreset | ⟨e, he, hprobe⟩ := hmove.variant_cases
  · rw [hsame]; exact hs
  · rw [hreset]; rfl
  · rw [hprobe]; exact variantReachable_of_mem_probeList hc he

/-- The configuration at the end of a run is the one at its beginning (10_state R38). -/
theorem run_cfg {k : Nat} {s t : State} (h : Sys2Proof.core.run k s = .next t) : t.cfg = s.cfg := by
  refine run_keeps (P := fun u => u.cfg = s.cfg) (fun u w hu hstep => ?_) k rfl h
  obtain ⟨-, -, hmove⟩ := step_move hstep
  exact hmove.cfg_eq.trans hu

/-- Settles O55: the launch state holds Unknown, every step keeps `variant` reachable, and PROBE_ENABLE_ALL does not change. -/
theorem reachableVariants : Obligations.ReachableVariants := by
  intro p xs k t h
  have hreach : variantReachable t.cfg t.variant = true :=
    run_keeps (fun _ _ hs hstep => step_keeps_variantReachable hstep hs) k rfl h
  have hcfg : t.cfg = p := run_cfg h
  rw [hcfg, variantReachable_eq_true] at hreach
  refine ⟨fun hall => ?_, fun hall => ?_⟩ <;> simpa [hall] using hreach

end Sys2Proof.Machine
end

section
/-! Proofs for 43_tick R140: the selector of TICK, and what TICK does outside a fault. -/

namespace Sys2Proof

theorem decodeBundle_sel6 {b : Bundle} (h : b.sel = 0b110) : decodeBundle b = .tick b.data := by
  simp [decodeBundle, h]

end Sys2Proof

namespace Sys2Proof.Machine

theorem exec_tick_of_live {s : State} (hc : s.cfg.wf = true) (hq : s.quiescent = false) (n : Value) :
    exec (.tick n) s = .next { s with settleCtr := s.settleCtr - n.toNat } :=
  running_of_live hc hq _

/-- The subtraction of natural numbers saturates at 0. -/
theorem sub_eq_ite (ctr count : Nat) : ctr - count = if count ≤ ctr then ctr - count else 0 := by
  split <;> omega

/-- Settles O30: outside a fault TICK writes the settle counter alone, with a difference of natural numbers. -/
theorem tickLowersSettle : Obligations.TickLowersSettle := by
  refine ⟨fun _ hsel => decodeBundle_sel6 hsel, fun s n hc hq => ?_⟩
  rw [exec_tick_of_live hc hq, ← sub_eq_ite]

end Sys2Proof.Machine
end

section
/-! Proofs for 43_tick R142: TIME_UNIT is not read. Setting it before an operation is setting it in the operation's next
state, for each operation and so for a step. -/

namespace Sys2Proof.Machine

/-- `s` under a configuration with another value of TIME_UNIT. -/
def State.setTimeUnit (u : Option Nat) (s : State) : State := { s with cfg := { s.cfg with timeUnit := u } }

/-- An outcome with another value of TIME_UNIT in its next state; a stop has none. -/
def outcomeSetTimeUnit (u : Option Nat) : StepOutcome → StepOutcome
  | .next t => .next (t.setTimeUnit u)
  | .fault r => .fault r
  | .refused r => .refused r

section setTimeUnit
variable (u : Option Nat) (s : State)

@[simp] theorem fsm_setTimeUnit : (s.setTimeUnit u).fsm = s.fsm := rfl
@[simp] theorem rx_setTimeUnit : (s.setTimeUnit u).rx = s.rx := rfl
@[simp] theorem txFrame_setTimeUnit : (s.setTimeUnit u).txFrame = s.txFrame := rfl
@[simp] theorem settleCtr_setTimeUnit : (s.setTimeUnit u).settleCtr = s.settleCtr := rfl
@[simp] theorem probeIdx_setTimeUnit : (s.setTimeUnit u).probeIdx = s.probeIdx := rfl
@[simp] theorem probeList_setTimeUnit : probeList (s.setTimeUnit u).cfg = probeList s.cfg := rfl
@[simp] theorem issueFault_setTimeUnit : issueFault (s.setTimeUnit u) = issueFault s := rfl
@[simp] theorem detectFault_setTimeUnit : detectFault (s.setTimeUnit u) = detectFault s := rfl

@[simp] theorem readValue_setTimeUnit (r : ReadReg) : readValue (s.setTimeUnit u) r = readValue s r := by
  cases r <;> rfl

@[simp] theorem fetched_setTimeUnit : fetched (s.setTimeUnit u) = fetched s := rfl

theorem beginStep_setTimeUnit : beginStep (s.setTimeUnit u) = (beginStep s).setTimeUnit u := rfl

theorem completeWrite_setTimeUnit (ans : Answer) :
    completeWrite ans (s.setTimeUnit u) = (completeWrite ans s).setTimeUnit u := by
  unfold completeWrite
  cases writeResult ans <;> rfl

theorem completeRead_setTimeUnit (ans : Answer) :
    completeRead ans (s.setTimeUnit u) = (completeRead ans s).setTimeUnit u := by
  unfold completeRead
  cases readResult ans <;> rfl

theorem sendProbe_setTimeUnit : sendProbe (s.setTimeUnit u) = outcomeSetTimeUnit u (sendProbe s) := by
  simp only [sendProbe, probeList_setTimeUnit, probeIdx_setTimeUnit]
  cases (probeList s.cfg)[s.probeIdx]? <;> rfl

theorem completeProbe_setTimeUnit (ans : Answer) :
    completeProbe ans (s.setTimeUnit u) = outcomeSetTimeUnit u (completeProbe ans s) := by
  cases ans with
  | okBytes r => rfl
  | ok =>
    simp only [completeProbe, probeList_setTimeUnit, probeIdx_setTimeUnit]
    cases (probeList s.cfg)[s.probeIdx]? <;> rfl
  | err k =>
    rw [completeProbe, completeProbe, probeList_setTimeUnit, probeIdx_setTimeUnit]
    split <;> rfl

/-- 00_scope R7's check and the fault marks do not look at TIME_UNIT, so what runs inside `running` decides. -/
theorem running_setTimeUnit {o o' : StepOutcome} (h : o' = outcomeSetTimeUnit u o) :
    running (s.setTimeUnit u) o' = outcomeSetTimeUnit u (running s o) := by
  subst h
  have hwf : (s.setTimeUnit u).cfg.wf = s.cfg.wf := rfl
  have hq : (s.setTimeUnit u).quiescent = s.quiescent := rfl
  unfold running
  rw [hwf, hq]
  cases s.cfg.wf <;> cases s.quiescent <;> rfl

theorem execWr_setTimeUnit (cls : SettleClass) (a : Addr) (v : Value) :
    execWr cls a v (s.setTimeUnit u) = outcomeSetTimeUnit u (execWr cls a v s) := by
  refine running_setTimeUnit u s ?_
  rw [issueFault_setTimeUnit]
  cases issueFault s <;> rfl

theorem execRd_setTimeUnit (a : Addr) : execRd a (s.setTimeUnit u) = outcomeSetTimeUnit u (execRd a s) := by
  refine running_setTimeUnit u s ?_
  rw [issueFault_setTimeUnit]
  cases issueFault s <;> rfl

theorem execDetect_setTimeUnit : execDetect (s.setTimeUnit u) = outcomeSetTimeUnit u (execDetect s) := by
  refine running_setTimeUnit u s ?_
  rw [detectFault_setTimeUnit]
  cases detectFault s with
  | some r => rfl
  | none => exact sendProbe_setTimeUnit u { s with probeIdx := 0 }

theorem execFrmWr_setTimeUnit (a : Addr) (v : Value) :
    execFrmWr a v (s.setTimeUnit u) = outcomeSetTimeUnit u (execFrmWr a v s) := by
  refine running_setTimeUnit u s ?_
  rw [txFrame_setTimeUnit, fsm_setTimeUnit, rx_setTimeUnit]
  split
  case isFalse => rfl
  case isTrue =>
    split
    case h_1 => rw [completeWrite_setTimeUnit]; rfl
    case h_2 ans _ _ => exact completeProbe_setTimeUnit u s ans
    case h_3 => rfl

theorem execFrmRdreq_setTimeUnit (a : Addr) :
    execFrmRdreq a (s.setTimeUnit u) = outcomeSetTimeUnit u (execFrmRdreq a s) := by
  refine running_setTimeUnit u s ?_
  rw [txFrame_setTimeUnit, fsm_setTimeUnit, rx_setTimeUnit]
  split
  case isFalse => rfl
  case isTrue =>
    split
    case h_1 => rw [completeRead_setTimeUnit]; rfl
    case h_2 => rfl

theorem execFrmRdresp_setTimeUnit (v : Value) :
    execFrmRdresp v (s.setTimeUnit u) = outcomeSetTimeUnit u (execFrmRdresp v s) := by
  refine running_setTimeUnit u s ?_
  rw [fsm_setTimeUnit]
  split
  case h_1 => rw [completeRead_setTimeUnit]; rfl
  case h_2 => rfl

theorem exec_setTimeUnit (i : Instr) : exec i (s.setTimeUnit u) = outcomeSetTimeUnit u (exec i s) := by
  cases i with
  | frmWr a v => exact execFrmWr_setTimeUnit u s a v
  | frmRdreq a => exact execFrmRdreq_setTimeUnit u s a
  | frmRdresp v => exact execFrmRdresp_setTimeUnit u s v
  | wr cls a v => exact execWr_setTimeUnit u s cls a v
  | rd a => exact execRd_setTimeUnit u s a
  | detect => exact execDetect_setTimeUnit u s
  | encWr _ _ | encRd _ | decResp _ _ _ _ | tick _ | reservedSel7 | attach => exact running_setTimeUnit u s rfl

theorem hostRead_setTimeUnit (r : ReadReg) :
    hostRead r (s.setTimeUnit u) = outcomeSetTimeUnit u (hostRead r s) := by
  refine running_setTimeUnit u s ?_
  rw [readValue_setTimeUnit]
  cases readValue s r <;> rfl

theorem internalStep_setTimeUnit : internalStep (s.setTimeUnit u) = outcomeSetTimeUnit u (internalStep s) := by
  refine running_setTimeUnit u s ?_
  rw [fsm_setTimeUnit, settleCtr_setTimeUnit]
  split
  case isTrue => exact sendProbe_setTimeUnit u s
  case isFalse => rfl

theorem step_setTimeUnit : step (s.setTimeUnit u) = outcomeSetTimeUnit u (step s) := by
  unfold step
  rw [fetched_setTimeUnit, beginStep_setTimeUnit]
  cases fetched s with
  | instr i => exact exec_setTimeUnit u (beginStep s) i
  | read r => exact hostRead_setTimeUnit u (beginStep s) r
  | internal => exact internalStep_setTimeUnit u (beginStep s)
  | strayAnswer => exact running_setTimeUnit u (beginStep s) rfl

end setTimeUnit

/-- Settles O49: what a step does is chosen beside TIME_UNIT, and each of its operations works beside it. -/
theorem timeUnitIsNeverRead : Obligations.TimeUnitIsNeverRead := by
  intro s u
  refine (step_setTimeUnit u s).trans ?_
  cases step s <;> rfl

end Sys2Proof.Machine
end

section
/-! Proofs for 70_reset_and_hazards R180: what ATTACH does outside a fault, and that the launch state is the one just after
it. -/

namespace Sys2Proof.Machine

theorem exec_attach_of_live {s : State} (hc : s.cfg.wf = true) (hq : s.quiescent = false) :
    exec .attach s = .next (attachState s) :=
  running_of_live hc hq _

/-- The launch state is an attach upon nothing: before its one event the history is empty. -/
theorem attachState_reset_emptyHistory : attachState { State.reset with history := [] } = State.reset := rfl

/-- Settles O32: outside a fault ATTACH is `attachState`, whose next state of an empty history is the launch state; in a
fault it runs as little as any instruction. -/
theorem attachResets : Obligations.AttachResets := by
  refine ⟨?launch, fun s hc => ⟨fun hq => ?live, fun hq => ?faulted⟩⟩
  case launch =>
    have hc : Params.production.wf = true := by decide
    have hq : State.quiescent { State.reset with history := [] } = false := quiescent_eq_false_of_idle rfl rfl
    rw [exec_attach_of_live hc hq, attachState_reset_emptyHistory]
  case live => exact exec_attach_of_live hc hq
  case faulted => exact exec_of_quiescent hc hq .attach

end Sys2Proof.Machine
end

section
/-! Proofs for the encodings (30_encoding sections 1 to 3, 40_codec R93): joining the lanes of a frame and laying them out are
inverse to each other, so the decoder's equations read in both directions. -/

namespace Sys2Proof

theorem addrBytes_joinAddr (a2 a1 a0 : Byte) : addrBytes (joinAddr a2 a1 a0) = [a2, a1, a0] := by
  simp only [addrBytes, joinAddr, List.cons.injEq, and_true]
  refine ⟨?_, ?_, ?_⟩ <;> (ext i hi; simp; grind)

theorem joinValue_inj {r0 r1 r2 r3 q0 q1 q2 q3 : Byte} (h : joinValue r0 r1 r2 r3 = joinValue q0 q1 q2 q3) :
    r0 = q0 ∧ r1 = q1 ∧ r2 = q2 ∧ r3 = q3 := by
  have hbytes := congrArg valueBytes h
  simpa only [Machine.valueBytes_joinValue, List.cons.injEq, and_true] using hbytes

/-- The value bytes are a response frame of their value (30_encoding R73). -/
@[simp] theorem decodeResponse_valueBytes (v : Value) : decodeResponse (valueBytes v) = .ok (.frmRdresp v) := by
  rw [valueBytes_lanes, decodeResponse_four, joinValue_lanes]

/-- What the decoder accepts on the request wires, and as what (30_encoding R80): the two frames the encoder builds. -/
theorem decodeRequest_eq_ok {f : List Byte} {i : Instr} :
    decodeRequest f = .ok i ↔
      (∃ a v, f = encWrFrame a v ∧ i = .frmWr a v) ∨ (∃ a, f = encRdFrame a ∧ i = .frmRdreq a) := by
  constructor
  · intro h
    unfold decodeRequest at h
    split at h
    case h_1 => cases h
    case h_2 op rest =>
      split at h
      case isTrue hop =>
        split at h <;> cases h
        exact .inl ⟨_, _, by simp [encWrFrame, addrBytes_joinAddr, Machine.valueBytes_joinValue, hop], rfl⟩
      case isFalse =>
        split at h
        case isTrue hop =>
          split at h <;> cases h
          exact .inr ⟨_, by simp [encRdFrame, addrBytes_joinAddr, hop], rfl⟩
        case isFalse => cases h
  · rintro (⟨a, v, rfl, rfl⟩ | ⟨a, rfl, rfl⟩)
    · exact decodeRequest_encWrFrame a v
    · exact decodeRequest_encRdFrame a

/-- What the decoder accepts on the response wires, and as what (30_encoding R73). -/
theorem decodeResponse_eq_ok {r : List Byte} {i : Instr} :
    decodeResponse r = .ok i ↔ ∃ v, r = valueBytes v ∧ i = .frmRdresp v := by
  constructor
  · intro h
    unfold decodeResponse at h
    split at h <;> cases h
    exact ⟨_, (Machine.valueBytes_joinValue ..).symm, rfl⟩
  · rintro ⟨v, rfl, rfl⟩
    exact decodeResponse_valueBytes v

theorem clsOfPort_portOfCls (cls : SettleClass) : clsOfPort (portOfCls cls) = cls := by
  cases cls <;> rfl

theorem decodeBundle_sel5 {b : Bundle} (h : b.sel = 0b101) : decodeBundle b = .detect := by
  simp [decodeBundle, h]

/-- Settles O1: the frames by their inverse laws, the commands by the selector their bundle carries. -/
theorem decodeEncodeRoundTrip : Obligations.DecodeEncodeRoundTrip := by
  intro i
  cases i with
  | frmWr a v => exact decodeRequest_encWrFrame a v
  | frmRdreq a => exact decodeRequest_encRdFrame a
  | frmRdresp v => exact decodeResponse_valueBytes v
  | encWr a v => exact congrArg Except.ok (decodeBundle_sel0 rfl)
  | encRd a => exact congrArg Except.ok (decodeBundle_sel1 rfl)
  | decResp r0 r1 r2 r3 => exact congrArg Except.ok (decodeBundle_sel2 rfl)
  | wr cls a v =>
    have hcls := clsOfPort_portOfCls cls
    exact congrArg Except.ok ((decodeBundle_sel3 rfl).trans (congrArg (Instr.wr · a v) hcls))
  | rd a => exact congrArg Except.ok (decodeBundle_sel4 rfl)
  | detect => exact congrArg Except.ok (decodeBundle_sel5 rfl)
  | tick n => exact congrArg Except.ok (decodeBundle_sel6 rfl)
  | reservedSel7 => exact congrArg Except.ok (decodeBundle_sel7 rfl)
  | attach => rfl

/-- Settles O2: the decoder accepts no request or response but the encoder's own. -/
theorem frameHasOneMeaning : Obligations.FrameHasOneMeaning := by
  refine ⟨fun f i h => ?request, fun r i h => ?response, fun i h => ?reset⟩
  case request =>
    obtain ⟨a, v, rfl, rfl⟩ | ⟨a, rfl, rfl⟩ := decodeRequest_eq_ok.1 h
    · rfl
    · rfl
  case response =>
    obtain ⟨v, rfl, rfl⟩ := decodeResponse_eq_ok.1 h
    rfl
  case reset => cases h; rfl

/-- The write frames are the 8 bytes that begin with OP_WRITE (30_encoding R71). -/
theorem exists_eq_encWrFrame {f : List Byte} :
    (∃ a v, f = encWrFrame a v) ↔ f.head? = some 0x12 ∧ f.length = 8 := by
  constructor
  · rintro ⟨a, v, rfl⟩
    exact ⟨rfl, rfl⟩
  · rintro ⟨hop, hlen⟩
    obtain ⟨op, rest, rfl⟩ := List.exists_cons_of_length_eq_add_one hlen
    obtain rfl : op = 0x12 := by simpa using hop
    match rest, hlen with
    | [a2, a1, a0, v0, v1, v2, v3], _ =>
      refine ⟨joinAddr a2 a1 a0, joinValue v0 v1 v2 v3, ?_⟩
      rw [encWrFrame, addrBytes_joinAddr, Machine.valueBytes_joinValue]
      rfl

/-- The read requests are the 4 bytes that begin with OP_READ (30_encoding R72). -/
theorem exists_eq_encRdFrame {f : List Byte} :
    (∃ a, f = encRdFrame a) ↔ f.head? = some 0x13 ∧ f.length = 4 := by
  constructor
  · rintro ⟨a, rfl⟩
    exact ⟨rfl, rfl⟩
  · rintro ⟨hop, hlen⟩
    obtain ⟨op, a2, a1, a0, rfl⟩ := List.length_eq_four.1 hlen
    obtain rfl : op = 0x13 := by simpa using hop
    exact ⟨joinAddr a2 a1 a0, by rw [encRdFrame, addrBytes_joinAddr]; rfl⟩

/-- The value bytes are any 4 bytes (30_encoding R73). -/
theorem exists_eq_valueBytes {r : List Byte} : (∃ v, r = valueBytes v) ↔ r.length = 4 := by
  constructor
  · rintro ⟨v, rfl⟩
    rfl
  · intro hlen
    obtain ⟨r0, r1, r2, r3, rfl⟩ := List.length_eq_four.1 hlen
    exact ⟨joinValue r0 r1 r2 r3, (Machine.valueBytes_joinValue ..).symm⟩

/-- Settles O3: the frames the decoder accepts are the encoder's, which are those of the two opcodes and their lengths. -/
theorem onlyLegalFramesDecode : Obligations.OnlyLegalFramesDecode := by
  refine ⟨fun f => ?request, fun r => ?response⟩
  case request =>
    calc (∃ i, decodeRequest f = .ok i)
      _ ↔ (∃ a v, f = encWrFrame a v) ∨ ∃ a, f = encRdFrame a := by simp [decodeRequest_eq_ok, exists_or]
      _ ↔ (f.head? = some 0x12 ∧ f.length = 8) ∨ (f.head? = some 0x13 ∧ f.length = 4) :=
        or_congr exists_eq_encWrFrame exists_eq_encRdFrame
      _ ↔ _ := by simp [and_or_left, exists_or]
  case response =>
    calc (∃ i, decodeResponse r = .ok i)
      _ ↔ ∃ v, r = valueBytes v := by simp [decodeResponse_eq_ok]
      _ ↔ r.length = 4 := exists_eq_valueBytes

theorem encWrFrame_inj {a a' : Addr} {v v' : Value} (h : encWrFrame a v = encWrFrame a' v') : a = a' ∧ v = v' := by
  have hdec := congrArg decodeRequest h
  simpa using hdec

theorem encRdFrame_inj {a a' : Addr} (h : encRdFrame a = encRdFrame a') : a = a' := by
  have hdec := congrArg decodeRequest h
  simpa using hdec

/-- Settles O7: lengths and opcodes stand in the lanes; injectivity is the decoder's left inverse. -/
theorem codecLaws : Obligations.CodecLaws := by
  refine ⟨fun a v => ⟨rfl, rfl⟩, fun a => ⟨rfl, rfl⟩, fun a v a' v' => encWrFrame_inj, fun a a' => encRdFrame_inj,
    fun a v => rfl, fun a v => decodeResponse_valueBytes v, fun v => ?surjective, fun _ _ _ _ _ _ _ _ => joinValue_inj⟩
  case surjective => exact ⟨_, _, _, _, joinValue_lanes v⟩

/-- Settles O4: each selector's instruction is made of the ports of its own command. -/
theorem unusedPortsIgnored : Obligations.UnusedPortsIgnored := by
  intro b b' hsel hcls haddr hdata hlanes
  rcases Machine.decodeBundle_cases b with
    ⟨hb, e⟩ | ⟨hb, e⟩ | ⟨hb, e⟩ | ⟨hb, e⟩ | ⟨hb, e⟩ | ⟨hb, e⟩ | ⟨hb, e⟩ | ⟨hb, e⟩ <;> have hb' := hsel.symm.trans hb
  · rw [e, decodeBundle_sel0 hb', haddr (by simp [hb]), hdata (by simp [hb])]
  · rw [e, decodeBundle_sel1 hb', haddr (by simp [hb])]
  · obtain ⟨h0, h1, h2, h3⟩ := hlanes hb
    rw [e, decodeBundle_sel2 hb', h0, h1, h2, h3]
  · rw [e, decodeBundle_sel3 hb', hcls hb, haddr (by simp [hb]), hdata (by simp [hb]), clsOfPort]
  · rw [e, decodeBundle_sel4 hb', haddr (by simp [hb])]
  · rw [e, decodeBundle_sel5 hb']
  · rw [e, decodeBundle_sel6 hb', hdata (by simp [hb])]
  · rw [e, decodeBundle_sel7 hb']

/-- Settles O5: the decoder is run on each word. -/
theorem specWordsDecode : Obligations.SpecWordsDecode := by
  refine ⟨?_, ?_, ?_, ?_, ?_, ?_, ?_, ?_, ?_, ?_, ?_⟩ <;> decide

/-- The assembler by the condition on a form's literals (30_encoding R83). -/
theorem assemble_eq_ite {x : Asm} {p : Prop} [Decidable p] (hfits : x.fits = decide p) :
    assemble x = if p then some (encode x.instr) else none := by
  simp [assemble, hfits]

/-- Settles O8: what `Asm.fits` asks of each form, and the bundle `encode` gives its instruction. -/
theorem assemblerForms : Obligations.AssemblerForms := by
  refine ⟨fun x hx => ?rejected, fun a v => ?encWr, fun a => ?encRd, fun b0 b1 b2 b3 => ?decResp, fun a v => ?wr,
    fun a v => ?wrS, fun a => ?rd, ?detect, fun n => ?tick, ?attach⟩
  case rejected => simp [assemble, hx]
  case encWr => exact assemble_eq_ite rfl
  case encRd => exact assemble_eq_ite rfl
  case decResp => exact assemble_eq_ite rfl
  case wr => exact assemble_eq_ite rfl
  case wrS => exact assemble_eq_ite rfl
  case rd => exact assemble_eq_ite rfl
  case detect => rfl
  case tick => exact assemble_eq_ite rfl
  case attach => rfl

end Sys2Proof
end

section
/-! Proofs for the invariant `State.Inv` (10_state, 41_transactions, 42_detector): one lemma for each operation, under what its
move knows; a step takes the event and then does one of them. -/

namespace Sys2Proof.Machine

theorem outstanding_append_req (h : List BusEvent) (k : ReqKind) (f : List Byte) (n : Nat) :
    outstanding (h ++ [.req k f n]) = true := by simp [outstanding]

theorem outstanding_append_ans (h : List BusEvent) (a : Answer) : outstanding (h ++ [.ans a]) = false := by
  simp [outstanding]

theorem outstanding_append_attach (h : List BusEvent) : outstanding (h ++ [.attach]) = false := by
  simp [outstanding]

theorem legalEvent_write (a : Addr) (v : Value) : legalEvent (.req .write (encWrFrame a v) 0) = true := rfl

theorem legalEvent_read (a : Addr) : legalEvent (.req .writeRead (encRdFrame a) Config.lenResponse) = true := rfl

theorem legalRequest_encWrFrame (a : Addr) (v : Value) : legalRequest (encWrFrame a v) = true := rfl

theorem legalRequest_encRdFrame (a : Addr) : legalRequest (encRdFrame a) = true := rfl

theorem history_legal_append {h : List BusEvent} {e : BusEvent} (hh : ∀ x ∈ h, legalEvent x = true)
    (he : legalEvent e = true) : ∀ x ∈ h ++ [e], legalEvent x = true := by
  simpa [or_imp, forall_and] using And.intro hh he

/-- A settle count of a configuration that meets 00_scope R7 stays within SETTLE_CTR_MAX. -/
theorem settle_le_max {p : Params} (hwf : p.wf = true) {m n : Nat} (hm : p.settleCtrMax = some m)
    (hn : n = p.settleOrdinary ∨ n = p.settleShutter ∨ n = p.settleRead) : n ≤ m := by
  obtain ⟨-, hmax⟩ := p.wf_iff.1 hwf
  obtain ⟨ho, hs, hr⟩ := hmax m hm
  rcases hn with rfl | rfl | rfl
  · exact ho
  · exact hs
  · exact hr

theorem writeSettle_cases (p : Params) (cls : Option SettleClass) :
    writeSettle p cls = p.settleOrdinary ∨ writeSettle p cls = p.settleShutter := by
  unfold writeSettle
  split
  · exact .inr rfl
  · exact .inl rfl

/-- What each answer to a WR leaves: a cause exactly with a failed status (41_transactions R109). -/
theorem writeResult_cause {a : Answer} {st : Status} {c : Option ErrCause} (h : writeResult a = some (st, c)) :
    c.isSome = failedStatus st := by
  unfold writeResult at h
  split at h <;> cases h <;> rfl

/-- What each answer to an RD leaves: a cause exactly with a failed status, data only with OK (41_transactions R109). -/
theorem readResult_cause {a : Answer} {st : Status} {c : Option ErrCause} {v : Option Value}
    (h : readResult a = some (st, c, v)) : c.isSome = failedStatus st ∧ (v.isSome = true → st = .ok) := by
  unfold readResult at h
  split at h <;> cases h <;> simp [failedStatus]

namespace State.Inv

section
variable {s : State} (hinv : s.Inv)
include hinv

theorem fault_eq_none (hf : s.fsm ≠ .faulted) : s.fault = none :=
  (Machine.quiescent_eq_false.1 (hinv.quiescent_eq_false hf)).2

/-- The event taken and its answer, if any, off the line: no register is written. -/
theorem discardAnswer_beginStep : (discardAnswer (beginStep s)).Inv := { hinv with answerTaken := rfl }

/-- An event that is no answer puts nothing on the answer line. -/
theorem beginStep (hline : answerOf (nextInput s) = none) : (beginStep s).Inv := { hinv with answerTaken := hline }

/-- The output ports and the refused mark are no part of the invariant. -/
theorem setPorts (e : Option (List Byte)) (d : Option Value) (r : Option ReadValue) (m : Option RefusalReason) :
    State.Inv { s with encOut := e, decOut := d, readOut := r, refused := m } := { hinv with }

theorem raiseFault (r : FaultReason) : (raiseFault r s).Inv :=
  { hinv with
    faultMark := by simp
    writeInFlight := nofun
    readInFlight := nofun
    probeInFlight := nofun
    probeRemains := nofun
    probing := by simp
    settleOver := nofun
    waitingOutstanding := nofun
    settledAnswered := by simp }

theorem lowerSettle (n : Nat) : State.Inv { s with settleCtr := s.settleCtr - n } :=
  { hinv with
    settleOver := fun hw => by simp [hinv.settleOver hw]
    settleBound := fun m hm => (Nat.sub_le ..).trans (hinv.settleBound m hm) }

theorem attachState (hf : s.fsm ≠ .faulted) : (attachState s).Inv where
  faultMark := by simp [hinv.fault_eq_none hf]
  answerTaken := rfl
  frameLegal := nofun
  addressKnown := rfl
  writeInFlight := nofun
  readInFlight := nofun
  probeInFlight := nofun
  probeRemains := nofun
  probing := by simp
  settleOver := nofun
  settleBound := fun m _ => Nat.zero_le m
  variantReach := rfl
  undetected := fun _ => rfl
  causeKnown := rfl
  dataOk := nofun
  historyLegal := history_legal_append hinv.historyLegal rfl
  waitingOutstanding := nofun
  settledAnswered := fun _ => outstanding_append_attach _

section send
variable (hf : s.fsm ≠ .faulted) (hs : s.settleCtr = 0)
include hf hs

theorem issueWrite (cls : SettleClass) (a : Addr) (v : Value) : (issueWrite cls a v s).Inv :=
  { hinv with
    faultMark := by simp [hinv.fault_eq_none hf]
    frameLegal := by rintro f ⟨⟩; exact legalRequest_encWrFrame a v
    addressKnown := rfl
    writeInFlight := fun _ => ⟨a, v, rfl, rfl, rfl⟩
    readInFlight := nofun
    probeInFlight := nofun
    probeRemains := nofun
    probing := by simp
    settleOver := fun _ => hs
    historyLegal := history_legal_append hinv.historyLegal (legalEvent_write a v)
    waitingOutstanding := fun _ => outstanding_append_req ..
    settledAnswered := by simp }

theorem issueRead (a : Addr) : (issueRead a s).Inv :=
  { hinv with
    faultMark := by simp [hinv.fault_eq_none hf]
    frameLegal := by rintro f ⟨⟩; exact legalRequest_encRdFrame a
    addressKnown := rfl
    writeInFlight := nofun
    readInFlight := fun _ => ⟨a, rfl, rfl⟩
    probeInFlight := nofun
    probeRemains := nofun
    probing := by simp
    settleOver := fun _ => hs
    historyLegal := history_legal_append hinv.historyLegal (legalEvent_read a)
    waitingOutstanding := fun _ => outstanding_append_req ..
    settledAnswered := by simp }

/-- The sequencer sends a probe of the list while no DETECT has completed (42_detector R121). -/
theorem sendProbe (hd : s.detDone = false) {p : Variant × Value} (hp : (probeList s.cfg)[s.probeIdx]? = some p) :
    State.Inv { sendFrame .write (encWrFrame Config.probeAddr p.2) 0 Config.probeAddr .probeWait s with
      curCls := some .ordinary } :=
  { hinv with
    faultMark := by simp [hinv.fault_eq_none hf]
    frameLegal := by rintro f ⟨⟩; exact legalRequest_encWrFrame ..
    addressKnown := rfl
    writeInFlight := nofun
    readInFlight := nofun
    probeInFlight := fun _ => ⟨p, hp, rfl⟩
    probeRemains := nofun
    probing := fun _ => ⟨hd, rfl, rfl⟩
    settleOver := fun _ => hs
    historyLegal := history_legal_append hinv.historyLegal (legalEvent_write ..)
    waitingOutstanding := fun _ => outstanding_append_req ..
    settledAnswered := by simp }

end send

/-- In IDLE the probe index is free: DETECT starts over from the first probe. -/
theorem restartProbes (hi : s.fsm = .idle) : State.Inv { s with probeIdx := 0 } :=
  { hinv with
    probeInFlight := by simp [hi]
    probeRemains := by simp [hi] }

theorem completeTransaction (hf : s.fsm ≠ .faulted) (a : Answer) {st : Status} {c : Option ErrCause}
    {v : Option Value} {n : Nat} (hc : c.isSome = failedStatus st) (hv : v.isSome = true → st = .ok)
    (hn : ∀ m, s.cfg.settleCtrMax = some m → n ≤ m) : (completeTransaction a st c v n s).Inv :=
  { hinv with
    faultMark := by simp [hinv.fault_eq_none hf]
    answerTaken := rfl
    writeInFlight := nofun
    readInFlight := nofun
    probeInFlight := nofun
    probeRemains := nofun
    probing := by simp
    settleOver := nofun
    settleBound := hn
    causeKnown := hc
    dataOk := hv
    historyLegal := history_legal_append hinv.historyLegal rfl
    waitingOutstanding := nofun
    settledAnswered := fun _ => outstanding_append_ans .. }

section probing
variable (hwf : s.cfg.wf = true) (hf : s.fsm = .probeWait)
include hwf hf

/-- A DETECT that completes with a variant the block can hold (42_detector R130). -/
theorem completeDetect (a : Answer) {st : Status} {var : Variant} (hst : failedStatus st = false)
    (hvar : variantReachable s.cfg var = true) :
    State.Inv { Machine.completeTransaction a st none none s.cfg.settleOrdinary s with
      variant := var, detDone := true } :=
  have hdone : (Machine.completeTransaction a st none none s.cfg.settleOrdinary s).Inv :=
    hinv.completeTransaction (by simp [hf]) a hst.symm nofun fun _ hm => settle_le_max hwf hm (.inl rfl)
  { hdone with
    probing := by simp
    variantReach := hvar
    undetected := nofun }

theorem probeAccepted {p : Variant × Value} (hp : (probeList s.cfg)[s.probeIdx]? = some p) :
    (probeAccepted p.1 s).Inv :=
  hinv.completeDetect hwf hf .ok rfl (variantReachable_of_mem_probeList hwf (List.mem_of_getElem? hp))

theorem noDevice (k : BusError) : (noDevice k s).Inv :=
  hinv.completeDetect hwf hf (.err k) rfl hinv.variantReach

/-- After a rejected probe the sequencer keeps the DETECT going (42_detector R124). -/
theorem probeRejected (k : BusError) (hp : s.probeIdx + 1 < (probeList s.cfg).length) : (probeRejected k s).Inv :=
  { hinv with
    faultMark := by simp [hinv.fault_eq_none (by simp [hf])]
    answerTaken := rfl
    writeInFlight := nofun
    readInFlight := nofun
    probeInFlight := nofun
    probeRemains := fun _ => hp
    probing := fun _ => hinv.probing (.inl hf)
    settleOver := nofun
    settleBound := fun _ hm => settle_le_max hwf hm (.inl rfl)
    historyLegal := history_legal_append hinv.historyLegal rfl
    waitingOutstanding := nofun
    settledAnswered := fun _ => outstanding_append_ans .. }

end probing

end

end State.Inv

/-- Each move of a live state keeps the invariant. An answer's move starts by taking it off the line. -/
theorem Move.keeps_inv {s t : State} (h : Move s t) (hwf : s.cfg.wf = true) (hlive : s.fsm ≠ .faulted)
    (hinv : s.Inv) : t.Inv := by
  have taken : (discardAnswer (beginStep s)).Inv := hinv.discardAnswer_beginStep
  have noAnswer {x : Input} (hin : nextInput s = x) (hx : answerOf x = none) : (beginStep s).Inv :=
    hinv.beginStep (hin ▸ hx)
  cases h with
  | codec b hin e d => exact (noAnswer hin rfl).setPorts e d none s.refused
  | read r v hin hv => exact (noAnswer hin rfl).setPorts none none (some v) s.refused
  | readFault r hin hv => exact (noAnswer hin rfl).raiseFault .noValue
  | issueFault b r hin hsel hf => exact (noAnswer hin rfl).raiseFault r
  | redetect b hin hsel hi hs hd => exact (noAnswer hin rfl).raiseFault .redetect
  | refuse b hin hsel => exact (noAnswer hin rfl).setPorts none none none (some .selector)
  | tick b hin hsel => exact (noAnswer hin rfl).lowerSettle b.data.toNat
  | attach hin => exact (noAnswer hin rfl).attachState hlive
  | issueWrite b cls a v hin hsel hi hs => exact (noAnswer hin rfl).issueWrite hlive hs cls a v
  | issueRead b a hin hsel hi hs => exact (noAnswer hin rfl).issueRead hlive hs a
  | detect b p hin hsel hi hs hd hp => exact ((noAnswer hin rfl).restartProbes hi).sendProbe hlive hs hd hp
  | nextProbe p hin hf hs hp =>
    obtain ⟨hd, -, -⟩ := hinv.probing (.inr hf)
    exact (noAnswer hin rfl).sendProbe hlive hs hd hp
  | hold hin hh => exact noAnswer hin rfl
  | discard a hin => exact taken
  | writeDone a st c hin hf hr =>
    refine taken.completeTransaction hlive a (writeResult_cause hr) nofun fun m hm => ?_
    exact settle_le_max hwf hm ((writeSettle_cases s.cfg s.curCls).imp_right .inl)
  | readDone a st c v hin hf hr =>
    obtain ⟨hcause, hvalue⟩ := readResult_cause hr
    exact taken.completeTransaction hlive a hcause hvalue fun m hm => settle_le_max hwf hm (.inr (.inr rfl))
  | accepted p hin hf hp => exact taken.probeAccepted hwf hf hp
  | rejected k hin hf hp => exact taken.probeRejected hwf hf k hp
  | noDevice k hin hf hp => exact taken.noDevice hwf hf k

/-- Settles O54: a next state is a move's, and each move is an operation that keeps the invariant. -/
theorem stepKeepsInvariant : Obligations.StepKeepsInvariant := by
  intro s t hinv h
  obtain ⟨hwf, hq, hmove⟩ := step_move h
  obtain ⟨hlive, -⟩ := quiescent_eq_false.1 hq
  exact hmove.keeps_inv hwf hlive hinv

end Sys2Proof.Machine
end

section
/-! Proofs for the answers to a WR or RD in flight (41_transactions R102 to R107, R110, R112): what executing each frame does by
the answer on the line. -/

namespace Sys2Proof.Machine

theorem writeSettle_some (p : Params) (cls : SettleClass) :
    writeSettle p (some cls) = if cls = .shutter then p.settleShutter else p.settleOrdinary := by
  simp [writeSettle]

theorem completeWrite_of_result {ans : Answer} {st : Status} {c : Option ErrCause} (hr : writeResult ans = some (st, c))
    (s : State) : completeWrite ans s = completeTransaction ans st c none (writeSettle s.cfg s.curCls) s := by
  simp [completeWrite, hr]

theorem completeRead_of_result {ans : Answer} {st : Status} {c : Option ErrCause} {v : Option Value}
    (hr : readResult ans = some (st, c, v)) (s : State) :
    completeRead ans s = completeTransaction ans st c v s.cfg.settleRead s := by
  simp [completeRead, hr]

section inFlight
variable {s : State} (hc : s.cfg.wf = true) (hfault : s.fault = none)
include hc hfault

theorem exec_frmWr_of_result {a : Addr} {v : Value} {cls : SettleClass} {ans : Answer} {st : Status}
    {c : Option ErrCause} (hf : s.fsm = .wrWait) (htx : s.txFrame = some (encWrFrame a v)) (hcls : s.curCls = some cls)
    (hrx : s.rx = some ans) (hr : writeResult ans = some (st, c)) :
    exec (.frmWr a v) s = .next (completeTransaction ans st c none
      (if cls = .shutter then s.cfg.settleShutter else s.cfg.settleOrdinary) s) := by
  have hq : s.quiescent = false := quiescent_eq_false.2 ⟨by simp [hf], hfault⟩
  rw [exec_frmWr_of_answer hc hq hf htx hrx, completeWrite_of_result hr, hcls, writeSettle_some]

theorem exec_frmRdreq_of_result {a : Addr} {ans : Answer} {st : Status} {c : Option ErrCause} {v : Option Value}
    (hf : s.fsm = .rdWait) (htx : s.txFrame = some (encRdFrame a)) (hrx : s.rx = some ans)
    (hr : readResult ans = some (st, c, v)) :
    exec (.frmRdreq a) s = .next (completeTransaction ans st c v s.cfg.settleRead s) := by
  have hq : s.quiescent = false := quiescent_eq_false.2 ⟨by simp [hf], hfault⟩
  rw [exec_frmRdreq_of_answer hc hq hf htx hrx, completeRead_of_result hr]

end inFlight

/-- Four bytes answer a read with the value they join to (41_transactions R105). -/
theorem readResult_valueBytes (v : Value) : readResult (.okBytes (valueBytes v)) = some (.ok, none, some v) := by
  rw [valueBytes_lanes, readResult, joinValue_lanes]

/-- Settles O15: the completion with the result `writeResult` gives `Ok`. -/
theorem writeAnsweredOk : Obligations.WriteAnsweredOk :=
  fun _ _ _ _ hc hfault hf htx hcls hrx => exec_frmWr_of_result hc hfault hf htx hcls hrx rfl

/-- Settles O16: the completion with the result `writeResult` gives `Err(k)`. -/
theorem writeAnsweredErr : Obligations.WriteAnsweredErr :=
  fun _ _ _ _ _ hc hfault hf htx hcls hrx => exec_frmWr_of_result hc hfault hf htx hcls hrx rfl

/-- Settles O17: the value's bytes join to it again, so it is the data of the completion. -/
theorem readAnsweredValue : Obligations.ReadAnsweredValue := by
  intro s v hc hfault hf
  have hq : s.quiescent = false := quiescent_eq_false.2 ⟨by simp [hf], hfault⟩
  rw [exec_frmRdresp_of_reading hc hq hf, completeRead_of_result (readResult_valueBytes v)]
  rfl

/-- Settles O18: the completion with the result `readResult` gives four bytes. -/
theorem readRequestAnsweredOk : Obligations.ReadRequestAnsweredOk :=
  fun _ _ _ _ _ _ hc hfault hf htx hrx => exec_frmRdreq_of_result hc hfault hf htx hrx rfl

/-- Settles O19: the completion with the result `readResult` gives any other number of bytes. -/
theorem readAnsweredWrongLength : Obligations.ReadAnsweredWrongLength :=
  fun _ _ _ hc hfault hf htx hrx hlen => exec_frmRdreq_of_result hc hfault hf htx hrx (readResult_of_length_ne hlen)

/-- Settles O20: the completion with the result `readResult` gives `Err(k)`. -/
theorem readAnsweredErr : Obligations.ReadAnsweredErr :=
  fun _ _ _ hc hfault hf htx hrx => exec_frmRdreq_of_result hc hfault hf htx hrx rfl

section live
variable {s : State} (hc : s.cfg.wf = true) (hq : s.quiescent = false)
include hc hq

/-- FRM_WR is taken only where it is outstanding and an answer to a `TxWrite` is on the line. -/
theorem exec_frmWr_of_unanswered {a : Addr} {v : Value}
    (h : s.txFrame = some (encWrFrame a v) → s.fsm = .wrWait ∨ s.fsm = .probeWait →
      s.rx = none ∨ ∃ r, s.rx = some (.okBytes r)) :
    exec (.frmWr a v) s = .next (discardAnswer s) := by
  rw [exec, execFrmWr, running_of_live hc hq]
  split
  case isFalse => rfl
  case isTrue htx =>
    split
    case h_1 ans hf hrx =>
      obtain ⟨r, rfl⟩ : ∃ r, ans = .okBytes r := by simpa [hrx] using h htx (.inl hf)
      rfl
    case h_2 ans hf hrx =>
      obtain ⟨r, rfl⟩ : ∃ r, ans = .okBytes r := by simpa [hrx] using h htx (.inr hf)
      rfl
    case h_3 => rfl

/-- FRM_RDREQ is taken only where it is outstanding and an answer to a `TxWriteRead` is on the line. -/
theorem exec_frmRdreq_of_unanswered {a : Addr}
    (h : s.txFrame = some (encRdFrame a) → s.fsm = .rdWait → s.rx = none ∨ s.rx = some .ok) :
    exec (.frmRdreq a) s = .next (discardAnswer s) := by
  rw [exec, execFrmRdreq, running_of_live hc hq]
  split
  case isFalse => rfl
  case isTrue htx =>
    split
    case h_1 ans hf hrx =>
      obtain rfl : ans = .ok := by simpa [hrx] using h htx hf
      rfl
    case h_2 => rfl

theorem exec_frmRdresp_of_not_reading (hf : s.fsm ≠ .rdWait) (v : Value) :
    exec (.frmRdresp v) s = .next (discardAnswer s) := by
  rw [exec, execFrmRdresp, running_of_live hc hq]
  split
  case h_1 hrd => exact absurd hrd hf
  case h_2 => rfl

end live

/-- Settles O21: each disjunct takes one condition of the frame's being answered away. -/
theorem unansweredFrameHolds : Obligations.UnansweredFrameHolds := by
  intro s a v hc hq
  refine ⟨fun h => exec_frmWr_of_unanswered hc hq fun htx hf => ?write,
    fun h => exec_frmRdreq_of_unanswered hc hq fun htx hf => ?read,
    fun hf => exec_frmRdresp_of_not_reading hc hq hf v⟩
  case write =>
    rcases h with hne | hrx | hrx | ⟨hwr, hprobe⟩
    · exact absurd htx hne
    · exact .inl hrx
    · exact .inr hrx
    · exact absurd hf (by simp [hwr, hprobe])
  case read =>
    rcases h with hne | hrx | hrx | hne
    · exact absurd htx hne
    · exact .inl hrx
    · exact .inr hrx
    · exact absurd hf hne

end Sys2Proof.Machine
end

section
/-! Proofs for the probe sequencer (42_detector R121 to R126): DETECT's issue, each answer to a probe, and the internal step. -/

namespace Sys2Proof.Machine

/-- The first probe of every list is MicroV1's (42_detector R120). -/
theorem probeList_first {p : Params} (hwf : p.wf = true) : (probeList p)[0]? = some (.microV1, Config.magicMicroV1) := by
  obtain ⟨-, hlist⟩ | ⟨-, m2, m3, hlist⟩ := probeList_cases hwf <;> rw [hlist] <;> rfl

/-- The first probe's frame, byte for byte (95_test_vectors DT-1). -/
theorem encWrFrame_firstProbe : encWrFrame Config.probeAddr Config.magicMicroV1 =
    [0x12, 0x00, 0x00, 0x50, 0x04, 0x52, 0x48, 0x4E] := by decide

section live
variable {s : State} (hc : s.cfg.wf = true) (hq : s.quiescent = false)
include hc hq

/-- DETECT, ready and the first in its attach, sends the first probe. -/
theorem exec_detect_of_ready (hr : s.ready = true) (hd : s.detDone = false) :
    exec .detect s =
      .next { sendFrame .write (encWrFrame Config.probeAddr Config.magicMicroV1) 0 Config.probeAddr .probeWait
        { s with probeIdx := 0 } with curCls := some .ordinary } := by
  obtain ⟨hidle, hsettle⟩ := ready_eq_true.1 hr
  have hsend : sendProbe { s with probeIdx := 0 } = .next _ := sendProbe_eq_next.2 ⟨_, probeList_first hc, rfl⟩
  exact exec_detect_eq_next.2 ⟨hc, hq, .inr ⟨detectFault_eq_none.2 ⟨hidle, hsettle, hd⟩, hsend⟩⟩

/-- Executing the probe in flight is its answer (42_detector R122). -/
theorem exec_frmWr_of_probe_answer {ans : Answer} {a : Addr} {v : Value} (hf : s.fsm = .probeWait)
    (htx : s.txFrame = some (encWrFrame a v)) (hrx : s.rx = some ans) :
    exec (.frmWr a v) s = completeProbe ans s := by
  simp [exec, execFrmWr, running_of_live hc hq, hf, htx, hrx]

theorem internalStep_of_holding (h : ¬(s.fsm = .probeSettle ∧ s.settleCtr = 0)) : internalStep s = .next s := by
  rw [internalStep, running_of_live hc hq, if_neg h]

theorem internalStep_of_settled (hf : s.fsm = .probeSettle) (hs : s.settleCtr = 0) : internalStep s = sendProbe s := by
  rw [internalStep, running_of_live hc hq, if_pos ⟨hf, hs⟩]

end live

/-- Settles O23: the issue check and DETECT's own find nothing, and the first probe's frame is R121's. -/
theorem detectIssue : Obligations.DetectIssue := by
  refine ⟨fun _ hsel => decodeBundle_sel5 hsel, fun s hc hfault hidle hsettle hd => ?_⟩
  have hq := quiescent_eq_false_of_idle hfault hidle
  rw [exec_detect_of_ready hc hq (ready_eq_true.2 ⟨hidle, hsettle⟩) hd, encWrFrame_firstProbe]
  rfl

section probing
variable {s : State} {m : Value} (hc : s.cfg.wf = true) (hfault : s.fault = none) (hf : s.fsm = .probeWait)
  (htx : s.txFrame = some (encWrFrame Config.probeAddr m))
include hc hfault hf htx

/-- What `completeProbe` says an answer does is what executing the probe does. -/
theorem exec_probe_of_completeProbe {ans : Answer} (hrx : s.rx = some ans) {t : State}
    (hdone : completeProbe ans s = .next t) : exec (.frmWr Config.probeAddr m) s = .next t := by
  have hq : s.quiescent = false := quiescent_eq_false.2 ⟨by simp [hf], hfault⟩
  rw [exec_frmWr_of_probe_answer hc hq hf htx hrx, hdone]

end probing

/-- Settles O25: the answer `Ok` takes the variant of the list's entry at the index. -/
theorem probeAnsweredOk : Obligations.ProbeAnsweredOk :=
  fun _ _ _ hc hfault hf hp htx hrx =>
    exec_probe_of_completeProbe hc hfault hf htx hrx (completeProbe_eq_next.2 (.inl ⟨rfl, _, hp, rfl⟩))

/-- Settles O26: the answer `Err(k)` where the list goes on. -/
theorem probeRejectedMovesOn : Obligations.ProbeRejectedMovesOn :=
  fun _ _ k hc hfault hf hmore htx hrx =>
    exec_probe_of_completeProbe hc hfault hf htx hrx (completeProbe_eq_next.2 (.inr (.inl ⟨k, rfl, hmore, rfl⟩)))

/-- Settles O27: the answer `Err(k)` where the list ends. -/
theorem lastProbeRejected : Obligations.LastProbeRejected :=
  fun _ _ k hc hfault hf hlast htx hrx =>
    exec_probe_of_completeProbe hc hfault hf htx hrx
      (completeProbe_eq_next.2 (.inr (.inr (.inl ⟨k, rfl, by omega, rfl⟩))))

/-- Settles O28: PROBE_SETTLE holds, sends, ticks down and is busy by one lemma each. -/
theorem interProbeSettle : Obligations.InterProbeSettle := by
  intro s hc hfault hf
  have hq : s.quiescent = false := quiescent_eq_false.2 ⟨by simp [hf], hfault⟩
  refine ⟨fun hwindow => ?holds, fun var m hs hp => ?sends, fun n hn => ?ticks, ?busy, fun i hbus => ?faults⟩
  case holds => exact internalStep_of_holding hc hq (by omega)
  case sends => exact (internalStep_of_settled hc hq hf hs).trans (sendProbe_eq_next.2 ⟨(var, m), hp, rfl⟩)
  case ticks => rw [exec_tick_of_live hc hq, Nat.sub_eq_zero_of_le hn]
  case busy => exact busy_eq_true.2 (.inr (.inr (.inr hf)))
  case faults => exact exec_of_busy hc hq hbus (by simp [hf])

end Sys2Proof.Machine
end

section
/-! Proofs for the step by its event (30_encoding R80, 60_exceptions R156): what each kind of event runs, and on which state. -/

namespace Sys2Proof.Machine

/-- The state a step works on, with the event at the head of the schedule named. -/
theorem beginStep_of_inputs {s : State} {x : Input} {rest : List Input} (h : s.inputs = x :: rest) :
    beginStep s =
      { s with inputs := rest, rx := answerOf x, encOut := none, decOut := none, readOut := none } := by
  simp [beginStep, nextInput, h]

section step
variable {s : State}

theorem step_of_command {b : Bundle} (hin : nextInput s = .command b) :
    step s = exec (decodeBundle b) (beginStep s) := by
  simp [step, fetched, hin]

theorem step_of_attach (hin : nextInput s = .attach) : step s = exec .attach (beginStep s) := by
  simp [step, fetched, hin]

theorem step_of_read {r : ReadReg} (hin : nextInput s = .read r) : step s = hostRead r (beginStep s) := by
  simp [step, fetched, hin]

theorem step_of_quiet (hin : nextInput s = .quiet) : step s = internalStep (beginStep s) := by
  simp [step, fetched, hin]

theorem answeredInstr_of_write {ans : Answer} {a : Addr} {v : Value} (hf : s.fsm = .wrWait ∨ s.fsm = .probeWait)
    (htx : s.txFrame = some (encWrFrame a v)) : answeredInstr s ans = some (.frmWr a v) := by
  rcases hf with hf | hf <;> simp [answeredInstr, hf, requestInFlight_of_write htx]

/-- In IDLE and PROBE_SETTLE no step takes an answer (70_reset_and_hazards R181). -/
theorem step_of_stray {ans : Answer} (hin : nextInput s = .answer ans) (hf : s.fsm = .idle ∨ s.fsm = .probeSettle)
    (hc : s.cfg.wf = true) (hq : s.quiescent = false) : step s = .next (discardAnswer (beginStep s)) := by
  have hnone : answeredInstr s ans = none := by rcases hf with hf | hf <;> simp [answeredInstr, hf]
  have hdrop : step s = dropStrayAnswer (beginStep s) := by simp [step, fetched, hin, hnone]
  rw [hdrop, dropStrayAnswer, running_of_live (s := beginStep s) hc hq]

end step

/-- Settles O37: one lemma for each kind of event, on the state `beginStep` gives for it. -/
theorem stepRunsDecodedInstruction : Obligations.StepRunsDecodedInstruction := by
  refine ⟨fun s b rest h => ?command, fun s rest h => ?attach, fun s ans rest a v h hf htx => ?write,
    fun s r0 r1 r2 r3 rest h hf => ?response, fun s ans rest a h hf htx hlen => ?readRequest, fun s r rest h => ?read,
    fun s rest h => ?quiet, fun s h => ?nothing⟩
  case command => exact (step_of_command (nextInput_of_inputs h)).trans (by rw [beginStep_of_inputs h]; rfl)
  case attach => exact (step_of_attach (nextInput_of_inputs h)).trans (by rw [beginStep_of_inputs h]; rfl)
  case write =>
    have hi : answeredInstr s ans = some (.frmWr a v) := answeredInstr_of_write hf htx
    exact (step_of_answeredInstr (nextInput_of_inputs h) hi).trans (by rw [beginStep_of_inputs h]; rfl)
  case response =>
    have hi := answeredInstr_of_four hf r0 r1 r2 r3
    exact (step_of_answeredInstr (nextInput_of_inputs h) hi).trans (by rw [beginStep_of_inputs h]; rfl)
  case readRequest =>
    have hi := (answeredInstr_of_not_four hf hlen).trans (requestInFlight_of_read htx)
    exact (step_of_answeredInstr (nextInput_of_inputs h) hi).trans (by rw [beginStep_of_inputs h]; rfl)
  case read => exact (step_of_read (nextInput_of_inputs h)).trans (by rw [beginStep_of_inputs h]; rfl)
  case quiet => exact (step_of_quiet (nextInput_of_inputs h)).trans (by rw [beginStep_of_inputs h]; rfl)
  case nothing =>
    have hin : nextInput s = .quiet := by simp [nextInput, h]
    have hbegin : beginStep s = { s with rx := none, encOut := none, decOut := none, readOut := none } := by
      simp [beginStep, hin, answerOf, h]
    rw [step_of_quiet hin, hbegin]

/-- Settles O33: no step takes an answer in IDLE or PROBE_SETTLE, and an ATTACH leaves the block in IDLE. -/
theorem lateAnswerDiscarded : Obligations.LateAnswerDiscarded := by
  have stray : ∀ (s : State) (ans : Answer) (rest : List Input), s.cfg.wf = true → s.quiescent = false →
      s.fsm = .idle ∨ s.fsm = .probeSettle → s.inputs = .answer ans :: rest →
      step s = .next { s with inputs := rest, rx := none, encOut := none, decOut := none, readOut := none } := by
    intro s ans rest hc hq hf h
    rw [step_of_stray (nextInput_of_inputs h) hf hc hq, beginStep_of_inputs h]
    rfl
  refine ⟨stray, fun s ans rest hc hq h => ?afterAttach⟩
  case afterAttach =>
    have hattach : step s = .next (attachState (beginStep s)) :=
      (step_of_attach (nextInput_of_inputs h)).trans (exec_attach_of_live (s := beginStep s) hc hq)
    have hq' : (attachState (beginStep s)).quiescent = false :=
      quiescent_eq_false_of_idle (quiescent_eq_false.1 hq).2 rfl
    have hlate : (attachState (beginStep s)).inputs = .answer ans :: rest := by simp [h]
    exact ⟨_, _, hattach, stray _ ans rest hc hq' (.inl rfl) hlate, rfl, rfl, rfl⟩

/-- Settles O39: whatever the event or the instruction, it runs inside `running`, which stops in a faulted state. -/
theorem faultedHasNoStep : Obligations.FaultedHasNoStep := by
  intro s hc hq
  refine ⟨?_, exec_of_quiescent hc hq⟩
  obtain ⟨o, ho⟩ := step_eq_running s
  rw [ho, running_of_quiescent (s := beginStep s) hc hq, beginStep_fault]

end Sys2Proof.Machine
end

section
/-! Proofs for the host's reads (10_state R36) and the codes of the registers it reads (10_state R21, R27; 60_exceptions
R151). -/

namespace Sys2Proof.Machine

section live
variable {s : State} (hc : s.cfg.wf = true) (hq : s.quiescent = false) {r : ReadReg}
include hc hq

theorem hostRead_of_value {v : ReadValue} (hv : readValue s r = some v) :
    hostRead r s = .next { s with readOut := some v } := by
  rw [hostRead, running_of_live hc hq, hv]

theorem hostRead_of_noValue (hv : readValue s r = none) : hostRead r s = .next (raiseFault .noValue s) := by
  rw [hostRead, running_of_live hc hq, hv]

end live

/-- The registers that may hold no value (10_state R36). -/
theorem readValue_eq_none {s : State} {r : ReadReg} :
    readValue s r = none ↔
      (r = .rdata ∧ s.rdata = none) ∨ (r = .errCause ∧ s.errCause = none) ∨ (r = .errAddr ∧ s.errAddr = none) := by
  cases r <;> simp [readValue]

/-- Settles O34: a read goes by what `readValue` finds in the register. -/
theorem hostReads : Obligations.HostReads := by
  intro s hc hq
  refine ⟨hostRead_of_value hc hq rfl, hostRead_of_value hc hq rfl, hostRead_of_value hc hq rfl,
    hostRead_of_value hc hq rfl, fun v hv => ?rdata, fun c hcause => ?errCause, fun a ha => ?errAddr,
    fun hv => ?noRdata, fun hcause => ?noErrCause, fun ha => ?noErrAddr⟩
  case rdata => exact hostRead_of_value hc hq (by simp [readValue, hv])
  case errCause => exact hostRead_of_value hc hq (by simp [readValue, hcause])
  case errAddr => exact hostRead_of_value hc hq (by simp [readValue, ha])
  case noRdata => exact hostRead_of_noValue hc hq (readValue_eq_none.2 (.inl ⟨rfl, hv⟩))
  case noErrCause => exact hostRead_of_noValue hc hq (readValue_eq_none.2 (.inr (.inl ⟨rfl, hcause⟩)))
  case noErrAddr => exact hostRead_of_noValue hc hq (readValue_eq_none.2 (.inr (.inr ⟨rfl, ha⟩)))

/-- The kind of BusError a code stands for (60_exceptions R151). -/
def busErrorOfCode (c : Code) : BusError :=
  if c = 0 then .deviceAbsent else if c = 1 then .nack else if c = 2 then .shortTransfer else .other

theorem busErrorOfCode_causeCode (k : BusError) : busErrorOfCode (causeCode (.bus k)) = k := by
  cases k <;> rfl

theorem busError_eq_of_causeCode {k k' : BusError} (h : causeCode (.bus k) = causeCode (.bus k')) : k = k' := by
  rw [← busErrorOfCode_causeCode k, h, busErrorOfCode_causeCode]

/-- Settles O35: a cause from the transport is told by its code, a LengthMismatch by the length kept with it. -/
theorem registerCodes : Obligations.RegisterCodes := by
  refine ⟨rfl, rfl, fun n => rfl, fun c c' hcode hlen => ?_⟩
  match c, c' with
  | .bus k, .bus k' => exact congrArg ErrCause.bus (busError_eq_of_causeCode hcode)
  | .bus _, .lengthMismatch _ => simp [causeLength] at hlen
  | .lengthMismatch _, .bus _ => simp [causeLength] at hlen
  | .lengthMismatch _, .lengthMismatch _ => exact congrArg ErrCause.lengthMismatch (Option.some.inj hlen)

end Sys2Proof.Machine
end

section
/-! Proofs about every step, by cases on its move: which moves write the fault mark, the result registers, the history, the
wait and the configuration. -/

namespace Sys2Proof.Machine

/-- A move that sets the fault mark is fault entry, with what its event and the state say of the reason. -/
theorem Move.fault_entry {s t : State} (h : Move s t) {r : FaultReason} (hs : s.fault = none) (ht : t.fault = some r) :
    t = raiseFault r (beginStep s) ∧
    ((∃ b, nextInput s = .command b ∧ (b.sel = 0b011 ∨ b.sel = 0b100 ∨ b.sel = 0b101) ∧ Machine.issueFault s = some r) ∨
      (r = .redetect ∧ s.fsm = .idle ∧ s.settleCtr = 0 ∧ s.detDone = true ∧
        ∃ b, nextInput s = .command b ∧ b.sel = 0b101) ∨
      (r = .noValue ∧ ∃ q, nextInput s = .read q ∧ readValue s q = none)) := by
  cases h
  case readFault q hin hv =>
    cases ht
    exact ⟨rfl, .inr (.inr ⟨rfl, q, hin, hv⟩)⟩
  case issueFault b q hin hsel hf =>
    cases ht
    exact ⟨rfl, .inl ⟨b, hin, hsel, hf⟩⟩
  case redetect b hin hsel hi hset hd =>
    cases ht
    exact ⟨rfl, .inr (.inl ⟨rfl, hi, hset, hd, b, hin, hsel⟩)⟩
  all_goals exact absurd (hs.symm.trans ht) (by simp)

/-- Settles O41: fault entry is `raiseFault`, and the move that makes it carries the condition of its reason. -/
theorem faultEntryIsPrecise : Obligations.FaultEntryIsPrecise := by
  intro s t r hs h ht
  obtain ⟨-, -, hmove⟩ := step_move h
  obtain ⟨rfl, ⟨b, hin, hsel, hf⟩ | ⟨rfl, hi, hset, hd, hb⟩ | ⟨rfl, q, hin, hv⟩⟩ := hmove.fault_entry hs ht
  · rcases issueFault_eq_some.1 hf with ⟨rfl, hbusy⟩ | ⟨rfl, hi, hwindow⟩
    · exact ⟨rfl, fun _ => ⟨hbusy, b, hin, hsel⟩, nofun, nofun, nofun⟩
    · exact ⟨rfl, nofun, fun _ => ⟨hi, hwindow, b, hin, hsel⟩, nofun, nofun⟩
  · exact ⟨rfl, nofun, nofun, fun _ => ⟨hi, hset, hd, hb⟩, nofun⟩
  · refine ⟨rfl, nofun, nofun, nofun, fun _ => ?_⟩
    rcases readValue_eq_none.1 hv with ⟨rfl, hnone⟩ | ⟨rfl, hnone⟩ | ⟨rfl, hnone⟩
    · exact .inl ⟨hin, hnone⟩
    · exact .inr (.inl ⟨hin, hnone⟩)
    · exact .inr (.inr ⟨hin, hnone⟩)

/-- Settles O42: the moves that write `variant` are ATTACH and an accepted probe. -/
theorem variantChangesOnlyByDetectOrAttach : Obligations.VariantChangesOnlyByDetectOrAttach := by
  intro s t h hne
  obtain ⟨-, -, hmove⟩ := step_move h
  cases hmove
  case attach hin => exact .inl ⟨hin, rfl⟩
  case accepted p hin hf hp => exact .inr ⟨hin, hf, rfl, rfl, p, hp, rfl⟩
  all_goals exact absurd rfl hne

/-- Settles O43: the moves that write a result register are ATTACH and the completions, which are answers. -/
theorem onlyCompletionsWriteResults : Obligations.OnlyCompletionsWriteResults := by
  intro s t h hattach hanswer
  obtain ⟨-, -, hmove⟩ := step_move h
  cases hmove
  case attach hin => exact absurd hin hattach
  case writeDone a st c hin hf hr => exact absurd hin (hanswer a)
  case readDone a st c v hin hf hr => exact absurd hin (hanswer a)
  case accepted p hin hf hp => exact absurd hin (hanswer .ok)
  case noDevice k hin hf hp => exact absurd hin (hanswer (.err k))
  all_goals exact ⟨rfl, rfl, rfl, rfl, rfl⟩

/-- Settles O44: the moves that append to the history are ATTACH, the answers taken, and the issues and probes, whose frames
are legal. -/
theorem onlyIssueStepsSend : Obligations.OnlyIssueStepsSend := by
  intro s t h
  obtain ⟨-, -, hmove⟩ := step_move h
  cases hmove
  case attach hin => exact .inr (.inl ⟨rfl, hin⟩)
  case writeDone a st c hin hf hr => exact .inr (.inr (.inl ⟨a, rfl, hin, by simp [hf, waiting]⟩))
  case readDone a st c v hin hf hr => exact .inr (.inr (.inl ⟨a, rfl, hin, by simp [hf, waiting]⟩))
  case accepted p hin hf hp => exact .inr (.inr (.inl ⟨.ok, rfl, hin, by simp [hf, waiting]⟩))
  case rejected k hin hf hp => exact .inr (.inr (.inl ⟨.err k, rfl, hin, by simp [hf, waiting]⟩))
  case noDevice k hin hf hp => exact .inr (.inr (.inl ⟨.err k, rfl, hin, by simp [hf, waiting]⟩))
  case issueWrite b cls a v hin hsel hi hs =>
    exact .inr (.inr (.inr ⟨_, _, _, rfl, legalEvent_write a v, rfl, .inl ⟨hi, hs, b, hin, .inl hsel⟩⟩))
  case issueRead b a hin hsel hi hs =>
    exact .inr (.inr (.inr ⟨_, _, _, rfl, legalEvent_read a, rfl, .inl ⟨hi, hs, b, hin, .inr (.inl hsel)⟩⟩))
  case detect b p hin hsel hi hs hd hp =>
    exact .inr (.inr (.inr ⟨_, _, _, rfl, legalEvent_write .., rfl, .inl ⟨hi, hs, b, hin, .inr (.inr hsel)⟩⟩))
  case nextProbe p hin hf hs hp =>
    exact .inr (.inr (.inr ⟨_, _, _, rfl, legalEvent_write .., rfl, .inr ⟨hf, hs, hin⟩⟩))
  all_goals exact .inl rfl

/-- Settles O46: of the moves out of a wait, those that write `fsm` are answers, ATTACH and fault entry; the issues and the
sequencer's probe leave from IDLE and PROBE_SETTLE, where the block does not wait. -/
theorem waitEndsOnlyByAnswerOrAttach : Obligations.WaitEndsOnlyByAnswerOrAttach := by
  intro s t hwait h hattach hanswer
  obtain ⟨-, -, hmove⟩ := step_move h
  have notIdle : s.fsm ≠ .idle := fun hi => by simp [hi, waiting] at hwait
  have notSettling : s.fsm ≠ .probeSettle := fun hi => by simp [hi, waiting] at hwait
  cases hmove
  case readFault => exact .inr rfl
  case issueFault => exact .inr rfl
  case redetect hi hs hd => exact absurd hi notIdle
  case attach hin => exact absurd hin hattach
  case issueWrite hi hs => exact absurd hi notIdle
  case issueRead hi hs => exact absurd hi notIdle
  case detect hi hs hd hp => exact absurd hi notIdle
  case nextProbe hin hf hs hp => exact absurd hf notSettling
  case writeDone a st c hin hf hr => exact absurd hin (hanswer a)
  case readDone a st c v hin hf hr => exact absurd hin (hanswer a)
  case accepted p hin hf hp => exact absurd hin (hanswer .ok)
  case rejected k hin hf hp => exact absurd hin (hanswer (.err k))
  case noDevice k hin hf hp => exact absurd hin (hanswer (.err k))
  all_goals exact .inl rfl

/-- Settles O50: no move writes the configuration. -/
theorem configurationIsFixed : Obligations.ConfigurationIsFixed := by
  intro s t h
  obtain ⟨-, -, hmove⟩ := step_move h
  exact hmove.cfg_eq

end Sys2Proof.Machine
end

section
/-! Proofs for the launch state (10_state R20, 70_reset_and_hazards R180) and for a host that keeps its duties (60_exceptions
R167). -/

namespace Sys2Proof.Machine

/-- Settles O52: the fields of the launch state, as it is written. -/
theorem resetState : Obligations.ResetState :=
  ⟨rfl, rfl, rfl, rfl, rfl, rfl, rfl, rfl, rfl, rfl, rfl, rfl, rfl, rfl, rfl, rfl, rfl, rfl, rfl, rfl⟩

theorem launch_inv (p : Params) (xs : List Input) : State.Inv { State.launch p with inputs := xs } where
  faultMark := by simp [State.launch, State.reset]
  answerTaken := rfl
  frameLegal := nofun
  addressKnown := rfl
  writeInFlight := nofun
  readInFlight := nofun
  probeInFlight := nofun
  probeRemains := nofun
  probing := by simp [State.launch, State.reset]
  settleOver := nofun
  settleBound := fun m _ => Nat.zero_le m
  variantReach := rfl
  undetected := fun _ => rfl
  causeKnown := rfl
  dataOk := nofun
  historyLegal := by simp [State.launch, State.reset, legalEvent]
  waitingOutstanding := nofun
  settledAnswered := fun _ => rfl

/-- Settles O53: at launch nothing is in flight, and State.reset is the launch state of production's parameters. -/
theorem launchMeetsInvariant : Obligations.LaunchMeetsInvariant :=
  ⟨launch_inv Params.production [], launch_inv⟩

/-- A command has a next state in every live state: a fault it raises is one (60_exceptions R155). -/
theorem exec_command_progress {s : State} (hc : s.cfg.wf = true) (hq : s.quiescent = false) (b : Bundle) :
    ∃ t, exec (decodeBundle b) s = .next t := by
  rcases decodeBundle_cases b with ⟨-, e⟩ | ⟨-, e⟩ | ⟨-, e⟩ | ⟨-, e⟩ | ⟨-, e⟩ | ⟨-, e⟩ | ⟨-, e⟩ | ⟨-, e⟩ <;> rw [e]
  · exact ⟨_, exec_encWr_of_live hc hq _ _⟩
  · exact ⟨_, exec_encRd_of_live hc hq _⟩
  · exact ⟨_, exec_decResp_of_live hc hq _ _ _ _⟩
  · cases hf : issueFault s with
    | none => exact ⟨_, exec_wr_eq_next.2 ⟨hc, hq, .inr ⟨hf, rfl⟩⟩⟩
    | some r => exact ⟨_, exec_wr_eq_next.2 ⟨hc, hq, .inl ⟨r, hf, rfl⟩⟩⟩
  · cases hf : issueFault s with
    | none => exact ⟨_, exec_rd_eq_next.2 ⟨hc, hq, .inr ⟨hf, rfl⟩⟩⟩
    | some r => exact ⟨_, exec_rd_eq_next.2 ⟨hc, hq, .inl ⟨r, hf, rfl⟩⟩⟩
  · cases hf : detectFault s with
    | none =>
      have hsend : sendProbe { s with probeIdx := 0 } = .next _ := sendProbe_eq_next.2 ⟨_, probeList_first hc, rfl⟩
      exact ⟨_, exec_detect_eq_next.2 ⟨hc, hq, .inr ⟨hf, hsend⟩⟩⟩
    | some r => exact ⟨_, exec_detect_eq_next.2 ⟨hc, hq, .inl ⟨r, hf, rfl⟩⟩⟩
  · exact ⟨_, exec_tick_of_live hc hq _⟩
  · exact ⟨_, exec_reservedSel7_of_live hc hq⟩

theorem hostRead_progress {s : State} (hc : s.cfg.wf = true) (hq : s.quiescent = false) (r : ReadReg) :
    ∃ t, hostRead r s = .next t := by
  cases hv : readValue s r with
  | none => exact ⟨_, hostRead_of_noValue hc hq hv⟩
  | some v => exact ⟨_, hostRead_of_value hc hq hv⟩

/-- In PROBE_SETTLE another probe remains, so the internal step finds the one it sends. -/
theorem internalStep_progress {s : State} (hc : s.cfg.wf = true) (hq : s.quiescent = false)
    (hremains : s.fsm = .probeSettle → s.probeIdx < (probeList s.cfg).length) : ∃ t, internalStep s = .next t := by
  by_cases h : s.fsm = .probeSettle ∧ s.settleCtr = 0
  · have hp := List.getElem?_eq_getElem (hremains h.1)
    exact ⟨_, (internalStep_of_settled hc hq h.1 h.2).trans (sendProbe_eq_next.2 ⟨_, hp, rfl⟩)⟩
  · exact ⟨_, internalStep_of_holding hc hq h⟩

/-- The step in which the probe in flight is answered (42_detector R122). -/
theorem step_of_probe_answered {s : State} {ans : Answer} {a : Addr} {v : Value} (hc : s.cfg.wf = true)
    (hfault : s.fault = none) (hin : nextInput s = .answer ans) (hf : s.fsm = .probeWait)
    (htx : s.txFrame = some (encWrFrame a v)) : step s = completeProbe ans (beginStep s) := by
  have hq : (beginStep s).quiescent = false := quiescent_eq_false.2 ⟨by simp [hf], hfault⟩
  rw [step_of_answeredInstr hin (answeredInstr_of_write (.inr hf) htx)]
  exact exec_frmWr_of_probe_answer (s := beginStep s) hc hq hf htx (beginStep_rx_of_answer hin)

theorem completeProbe_progress {s : State} {p : Variant × Value} (hp : (probeList s.cfg)[s.probeIdx]? = some p)
    (ans : Answer) : ∃ t, completeProbe ans s = .next t := by
  cases ans with
  | ok => exact ⟨_, completeProbe_eq_next.2 (.inl ⟨rfl, p, hp, rfl⟩)⟩
  | okBytes r => exact ⟨_, rfl⟩
  | err k =>
    by_cases hmore : s.probeIdx + 1 < (probeList s.cfg).length
    · exact ⟨_, completeProbe_eq_next.2 (.inr (.inl ⟨k, rfl, hmore, rfl⟩))⟩
    · exact ⟨_, completeProbe_eq_next.2 (.inr (.inr (.inl ⟨k, rfl, hmore, rfl⟩)))⟩

/-- An answer has a next state in every state of the block that no fault has ended. -/
theorem step_answer_progress {s : State} {ans : Answer} (hinv : s.Inv) (hc : s.cfg.wf = true) (hfault : s.fault = none)
    (hin : nextInput s = .answer ans) : ∃ t, step s = .next t := by
  have stray (hf : s.fsm = .idle ∨ s.fsm = .probeSettle) : ∃ t, step s = .next t :=
    ⟨_, step_of_stray hin hf hc (quiescent_eq_false.2 ⟨by rcases hf with hf | hf <;> simp [hf], hfault⟩)⟩
  cases hf : s.fsm with
  | idle => exact stray (.inl hf)
  | probeSettle => exact stray (.inr hf)
  | wrWait => exact ⟨_, step_of_write_answered hinv hc hin hf⟩
  | rdWait => exact ⟨_, step_of_read_answered hinv hc hin hf⟩
  | probeWait =>
    obtain ⟨p, hp, htx⟩ := hinv.probeInFlight hf
    rw [step_of_probe_answered hc hfault hin hf htx]
    exact completeProbe_progress (s := beginStep s) hp ans
  | faulted =>
    have hmark := hinv.faultMark.2 hf
    simp [hfault] at hmark

/-- Every event has a next state where the invariant holds and no fault is recorded. -/
theorem step_progress {s : State} (hinv : s.Inv) (hc : s.cfg.wf = true) (hfault : s.fault = none) :
    ∃ t, step s = .next t := by
  have hlive : s.fsm ≠ .faulted := fun hf => by simpa [hfault] using hinv.faultMark.2 hf
  have hq : (beginStep s).quiescent = false := quiescent_eq_false.2 ⟨hlive, hfault⟩
  cases hin : nextInput s with
  | command b => rw [step_of_command hin]; exact exec_command_progress (s := beginStep s) hc hq b
  | attach => rw [step_of_attach hin]; exact ⟨_, exec_attach_of_live (s := beginStep s) hc hq⟩
  | answer ans => exact step_answer_progress hinv hc hfault hin
  | read r => rw [step_of_read hin]; exact hostRead_progress (s := beginStep s) hc hq r
  | quiet => rw [step_of_quiet hin]; exact internalStep_progress (s := beginStep s) hc hq hinv.probeRemains

theorem clean_eq_true {s : State} : s.clean = true ↔ s.fault = none ∧ s.refused = none := by
  simp [State.clean]

/-- A bus command that the host may present is presented when `ready`, and DETECT once in an attach (60_exceptions R167). -/
theorem ready_of_commandDuty {s : State} {b : Bundle} (hsel : b.sel = 0b011 ∨ b.sel = 0b100 ∨ b.sel = 0b101)
    (hduty : commandDuty s (decodeBundle b) = true) : s.ready = true ∧ (b.sel = 0b101 → s.detDone = false) := by
  rcases hsel with h | h | h
  · rw [decodeBundle_sel3 h] at hduty
    exact ⟨hduty, by simp [h]⟩
  · rw [decodeBundle_sel4 h] at hduty
    exact ⟨hduty, by simp [h]⟩
  · rw [decodeBundle_sel5 h] at hduty
    simpa [commandDuty, h] using hduty

/-- The moves that set a mark are those a dutiful host does not make. -/
theorem Move.keeps_clean {s t : State} (h : Move s t) (hduty : hostDuty s (nextInput s) = true)
    (hs : s.clean = true) : t.clean = true := by
  cases h
  case readFault r hin hv => simp [hin, hostDuty, hv] at hduty
  case issueFault b r hin hsel hf =>
    rw [hin] at hduty
    rw [issueFault_of_ready (ready_of_commandDuty hsel hduty).1] at hf
    cases hf
  case redetect b hin hsel hi hset hd =>
    rw [hin] at hduty
    rw [(ready_of_commandDuty (.inr (.inr hsel)) hduty).2 hsel] at hd
    cases hd
  case refuse b hin hsel => simp [hin, hostDuty, decodeBundle_sel7 hsel, commandDuty] at hduty
  all_goals exact hs

/-- Settles O56: under the invariant every event has a next state, and a dutiful host's event is no move that sets a mark. -/
theorem dutifulHostStaysClean : Obligations.DutifulHostStaysClean := by
  intro s hinv hc hclean hduty
  obtain ⟨hfault, -⟩ := clean_eq_true.1 hclean
  obtain ⟨t, h⟩ := step_progress hinv hc hfault
  obtain ⟨-, -, hmove⟩ := step_move h
  exact ⟨t, h, hmove.keeps_clean hduty hclean⟩

end Sys2Proof.Machine
end

section
/-! Proofs for what the traffic means for the device (20_memory R60): each request after a settled history adds its own
effects. -/

namespace Sys2Proof.Machine

/-- After a history with no request outstanding the effects of what follows are its own. -/
theorem deviceEffects_append {h : List BusEvent} (hsettled : outstanding h = false) (tail : List BusEvent) :
    deviceEffects (h ++ tail) = deviceEffects h ++ deviceEffects tail :=
  deviceEffectsFrom_append h tail none (by simp [hsettled])

/-- A request and its answer have the effects of the answered request. -/
theorem deviceEffects_answered (k : ReqKind) (f : List Byte) (n : Nat) (a : Answer) :
    deviceEffects [.req k f n, .ans a] = answeredEffect k f a := by
  simp [deviceEffects, deviceEffectsFrom]

theorem answeredEffect_writeOk (a : Addr) (v : Value) :
    answeredEffect .write (encWrFrame a v) .ok = [.memWrite a v] := by
  simp [answeredEffect]

theorem answeredEffect_readFour (a : Addr) (r0 r1 r2 r3 : Byte) :
    answeredEffect .writeRead (encRdFrame a) (.okBytes [r0, r1, r2, r3]) =
      [.memRead a (r0 ++ r1 ++ r2 ++ r3), .anyValue] := by
  simp [answeredEffect, joinValue]

theorem answeredEffect_err (k : ReqKind) (f : List Byte) (e : BusError) :
    answeredEffect k f (.err e) = [.anyValue] := by
  cases k <;> simp [answeredEffect]

/-- Settles O51: the settled beginning splits off; the request with its answer, or without one, has its own effects. -/
theorem deviceEffectsOfTransactions : Obligations.DeviceEffectsOfTransactions := by
  intro h a hsettled
  simp only [deviceEffects_append hsettled, deviceEffects_answered]
  refine ⟨fun v => ?writeOk, fun v k => ?writeErr, fun v => rfl, fun v => rfl, fun r0 r1 r2 r3 => ?readFour,
    fun r hlen => ?readOtherLength, fun k => ?readErr, rfl, rfl⟩
  case writeOk => rw [answeredEffect_writeOk]
  case writeErr => rw [answeredEffect_err]
  case readFour => rw [answeredEffect_readFour]
  case readOtherLength => rw [answeredEffect_wrongLength _ r hlen]
  case readErr => rw [answeredEffect_err]

end Sys2Proof.Machine
end

section
/-! Proofs for runs of TICKs (43_tick R141): each TICK is a step that lowers the counter and leaves the block as it was. -/

namespace Sys2Proof.Machine

theorem step_of_tick {s : State} {b : Bundle} (hc : s.cfg.wf = true) (hq : s.quiescent = false)
    (hin : nextInput s = .command b) (hsel : b.sel = 0b110) :
    step s = .next { beginStep s with settleCtr := s.settleCtr - b.data.toNat } := by
  rw [step_of_command hin, decodeBundle_sel6 hsel]
  exact exec_tick_of_live (s := beginStep s) hc hq b.data

/-- A run of TICKs in an idle block. -/
theorem run_ticks {s : State} {ns : List Value} {rest : List Input} (hc : s.cfg.wf = true) (hfault : s.fault = none)
    (hidle : s.fsm = .idle)
    (h : s.inputs = (ns.map fun n => .command { bareBundle 0b110 with data := n }) ++ rest) :
    ∃ t : State, Sys2Proof.core.run ns.length s = .next t ∧ t.fsm = .idle ∧
      t.settleCtr = s.settleCtr - (ns.map BitVec.toNat).sum := by
  induction ns generalizing s with
  | nil => exact ⟨s, rfl, hidle, rfl⟩
  | cons n ns ih =>
    have hstep := step_of_tick hc (quiescent_eq_false_of_idle hfault hidle) (nextInput_of_inputs h) rfl
    obtain ⟨t, hrun, ht, hctr⟩ := ih (s := { beginStep s with settleCtr := s.settleCtr - n.toNat }) hc hfault hidle
      (by simp [h])
    exact ⟨t, (run_next hstep).trans hrun, ht, by simp [hctr, Nat.sub_sub]⟩

/-- Settles O57: the counter after the run is exact, and an idle block is ready at 0. -/
theorem ticksOpenTheWindow : Obligations.TicksOpenTheWindow := by
  intro s ns rest hc hfault hidle h
  obtain ⟨t, hrun, ht, hctr⟩ := run_ticks hc hfault hidle h
  refine ⟨t, hrun, hctr, ready_eq_true.trans ?_⟩
  rw [hctr, Nat.sub_eq_zero_iff_le]
  simp [ht]

end Sys2Proof.Machine
end

section
/-! Proofs for a whole DETECT (42_detector R122, R129, R131, R132), round by round: a round is the answer to a probe, the report
of the settle window and a quiet step. `ProbeSent` describes the block at the beginning of a round, `DetectEnded` after the
last. -/

namespace Sys2Proof.Machine

/-- A probe is in flight: the first of `probes`, after the bus events `before` it; `events` are still to come. -/
structure ProbeSent (window : Nat) (before : List BusEvent) (probe : Variant × Value) (probes : List (Variant × Value))
    (events : List Input) (s : State) : Prop where
  wf : s.cfg.wf = true
  window_eq : s.cfg.settleOrdinary = window
  fault : s.fault = none
  fsm : s.fsm = .probeWait
  remaining : (probeList s.cfg).drop s.probeIdx = probe :: probes
  frame : s.txFrame = some (encWrFrame Config.probeAddr probe.2)
  variant : s.variant = .unknown
  errAddr : s.errAddr = some Config.probeAddr
  history : s.history = before ++ [.req .write (encWrFrame Config.probeAddr probe.2) 0]
  inputs : s.inputs = events

/-- The DETECT has completed with the variant `found`, if any, after the bus events `traffic`; at most `window` time-units are
pending and `events` are still to come. -/
structure DetectEnded (window : Nat) (traffic : List BusEvent) (found : Option Variant) (events : List Input)
    (s : State) : Prop where
  wf : s.cfg.wf = true
  fault : s.fault = none
  fsm : s.fsm = .idle
  settle : s.settleCtr ≤ window
  detDone : s.detDone = true
  errCause : s.errCause = none
  rdata : s.rdata = none
  errAddr : s.errAddr = some Config.probeAddr
  history : s.history = traffic
  inputs : s.inputs = events
  result : match found with
    | some v => s.variant = v ∧ s.status = .ok
    | none => s.variant = .unknown ∧ s.status = .noDeviceFound

theorem run_three {s u v w : State} (k : Nat) (h1 : step s = .next u) (h2 : step u = .next v) (h3 : step v = .next w) :
    Sys2Proof.core.run (k + 3) s = Sys2Proof.core.run k w :=
  (run_next h1).trans ((run_next h2).trans (run_next h3))

/-- The report of a window covers it. -/
theorem tickBundle_toNat {n : Nat} (hn : n < 2 ^ 32) : (tickBundle n).data.toNat = n := by
  simpa [tickBundle] using hn

/-- Outside PROBE_SETTLE a quiet step holds. -/
theorem step_of_quiet_idle {s : State} (hc : s.cfg.wf = true) (hfault : s.fault = none) (hidle : s.fsm = .idle)
    (hin : nextInput s = .quiet) : step s = .next (beginStep s) := by
  rw [step_of_quiet hin]
  exact internalStep_of_holding (s := beginStep s) hc (quiescent_eq_false_of_idle hfault hidle) (by simp [hidle])

/-- In PROBE_SETTLE with the window over a quiet step sends the next probe. -/
theorem step_of_quiet_settled {s : State} (hc : s.cfg.wf = true) (hfault : s.fault = none) (hf : s.fsm = .probeSettle)
    (hs : s.settleCtr = 0) (hin : nextInput s = .quiet) {p : Variant × Value}
    (hp : (probeList s.cfg)[s.probeIdx]? = some p) :
    step s = .next { sendFrame .write (encWrFrame Config.probeAddr p.2) 0 Config.probeAddr .probeWait (beginStep s) with
      curCls := some .ordinary } := by
  have hq : (beginStep s).quiescent = false := quiescent_eq_false.2 ⟨by simp [hf], hfault⟩
  rw [step_of_quiet hin, internalStep_of_settled (s := beginStep s) hc hq hf hs]
  exact sendProbe_eq_next.2 ⟨p, hp, rfl⟩

namespace DetectEnded

variable {window : Nat} {traffic : List BusEvent} {found : Option Variant} {events : List Input} {s : State}

/-- After a DETECT the report of the window opens it, and the quiet step holds. -/
theorem closeRound (hw : window < 2 ^ 32)
    (h : DetectEnded window traffic found (.command (tickBundle window) :: .quiet :: events) s) :
    ∃ u t : State, step s = .next u ∧ step u = .next t ∧ DetectEnded 0 traffic found events t := by
  have htick := step_of_tick h.wf (quiescent_eq_false_of_idle h.fault h.fsm) (nextInput_of_inputs h.inputs) rfl
  have hquiet := step_of_quiet_idle
    (s := { beginStep s with settleCtr := s.settleCtr - (tickBundle window).data.toNat }) h.wf h.fault h.fsm
    (by simp [nextInput, h.inputs])
  refine ⟨_, _, htick, hquiet, ?_⟩
  exact { h with
    settle := by simp [tickBundle_toNat hw, h.settle]
    inputs := by simp [h.inputs] }

/-- A round after the end of the DETECT leaves its result: the answer has no request (70_reset_and_hazards R181). -/
theorem round (hw : window < 2 ^ 32) {a : Answer}
    (h : DetectEnded 0 traffic found (.answer a :: .command (tickBundle window) :: .quiet :: events) s) :
    ∃ t : State, (∀ k, Sys2Proof.core.run (k + 3) s = Sys2Proof.core.run k t) ∧
      DetectEnded 0 traffic found events t := by
  have hstray := step_of_stray (nextInput_of_inputs h.inputs) (.inl h.fsm) h.wf
    (quiescent_eq_false_of_idle h.fault h.fsm)
  have hend : DetectEnded window traffic found (.command (tickBundle window) :: .quiet :: events)
      (discardAnswer (beginStep s)) :=
    { h with
      settle := h.settle.trans (Nat.zero_le window)
      inputs := by simp [h.inputs] }
  obtain ⟨u, t, htick, hquiet, ht⟩ := hend.closeRound hw
  exact ⟨t, fun k => run_three k hstray htick hquiet, ht⟩

theorem rounds (hw : window < 2 ^ 32) {answers : List Answer} {rest : List Input}
    (h : DetectEnded 0 traffic found (probeRounds window answers ++ rest) s) :
    ∃ t : State, Sys2Proof.core.run (3 * answers.length) s = .next t ∧ DetectEnded 0 traffic found rest t := by
  induction answers generalizing s with
  | nil => exact ⟨s, rfl, h⟩
  | cons a as ih =>
    obtain ⟨u, hrun, hu⟩ := h.round hw
    obtain ⟨t, hrest, ht⟩ := ih hu
    exact ⟨t, (hrun (3 * as.length)).trans hrest, ht⟩

/-- From the answer that ends the DETECT to the end of the schedule. -/
theorem finish (hw : window < 2 ^ 32) {answers : List Answer} {rest : List Input} {s₀ : State} (hstep : step s₀ = .next s)
    (h : DetectEnded window traffic found
      (.command (tickBundle window) :: .quiet :: (probeRounds window answers ++ rest)) s) :
    ∃ t : State, Sys2Proof.core.run (3 * answers.length + 3) s₀ = .next t ∧ DetectEnded 0 traffic found rest t := by
  obtain ⟨u, v, htick, hquiet, hv⟩ := h.closeRound hw
  obtain ⟨t, hrun, ht⟩ := hv.rounds hw
  exact ⟨t, (run_three _ hstep htick hquiet).trans hrun, ht⟩

end DetectEnded

namespace ProbeSent

variable {window : Nat} {before : List BusEvent} {probe : Variant × Value} {probes : List (Variant × Value)}
  {events : List Input} {s : State}

section answered
variable {a : Answer} (h : ProbeSent window before probe probes (.answer a :: events) s)
include h

theorem nth : (probeList s.cfg)[s.probeIdx]? = some probe := by
  rw [← List.head?_drop, h.remaining, List.head?_cons]

theorem drop_next : (probeList s.cfg).drop (s.probeIdx + 1) = probes := by
  rw [← List.tail_drop, h.remaining, List.tail_cons]

theorem more_iff : s.probeIdx + 1 < (probeList s.cfg).length ↔ probes ≠ [] := by
  rw [← h.drop_next, Ne, List.drop_eq_nil_iff, not_le]

theorem step_eq : step s = completeProbe a (beginStep s) :=
  step_of_probe_answered h.wf h.fault (nextInput_of_inputs h.inputs) h.fsm h.frame

theorem history_answered :
    s.history ++ [.ans a] = before ++ [.req .write (encWrFrame Config.probeAddr probe.2) 0, .ans a] := by
  simp [h.history]

/-- The two ways a DETECT completes differ in the status and the variant (42_detector R123, R125). -/
theorem detectEnded {st : Status} {var : Variant} {found : Option Variant}
    (hresult : match found with
      | some v => var = v ∧ st = .ok
      | none => var = .unknown ∧ st = .noDeviceFound) :
    DetectEnded window (before ++ [.req .write (encWrFrame Config.probeAddr probe.2) 0, .ans a]) found events
      { completeTransaction a st none none s.cfg.settleOrdinary (beginStep s) with variant := var, detDone := true } where
  wf := h.wf
  fault := h.fault
  fsm := rfl
  settle := h.window_eq.le
  detDone := rfl
  errCause := rfl
  rdata := rfl
  errAddr := h.errAddr
  history := h.history_answered
  inputs := by simp [h.inputs]
  result := hresult

end answered

/-- The answer `Ok` ends the DETECT with the probe's variant. -/
theorem accepted (h : ProbeSent window before probe probes (.answer .ok :: events) s) :
    ∃ t : State, step s = .next t ∧
      DetectEnded window (before ++ [.req .write (encWrFrame Config.probeAddr probe.2) 0, .ans .ok]) (some probe.1)
        events t := by
  have hdone : completeProbe .ok (beginStep s) = .next (probeAccepted probe.1 (beginStep s)) :=
    completeProbe_eq_next.2 (.inl ⟨rfl, probe, h.nth, rfl⟩)
  exact ⟨_, h.step_eq.trans hdone, h.detectEnded ⟨rfl, rfl⟩⟩

/-- The answer `Err(k)` to the last probe ends the DETECT without a variant. -/
theorem lastRejected {k : BusError} (h : ProbeSent window before probe [] (.answer (.err k) :: events) s) :
    ∃ t : State, step s = .next t ∧
      DetectEnded window (before ++ [.req .write (encWrFrame Config.probeAddr probe.2) 0, .ans (.err k)]) none
        events t := by
  have hlast : ¬ s.probeIdx + 1 < (probeList s.cfg).length := by simp [h.more_iff]
  have hdone : completeProbe (.err k) (beginStep s) = .next (noDevice k (beginStep s)) :=
    completeProbe_eq_next.2 (.inr (.inr (.inl ⟨k, rfl, hlast, rfl⟩)))
  exact ⟨_, h.step_eq.trans hdone, h.detectEnded (found := none) ⟨h.variant, rfl⟩⟩

/-- The answer `Err(k)` to another probe: after its window the next one is in flight. -/
theorem rejectedRound (hw : window < 2 ^ 32) {k : BusError} {next : Variant × Value}
    (h : ProbeSent window before probe (next :: probes)
      (.answer (.err k) :: .command (tickBundle window) :: .quiet :: events) s) :
    ∃ t : State, (∀ n, Sys2Proof.core.run (n + 3) s = Sys2Proof.core.run n t) ∧
      ProbeSent window (before ++ [.req .write (encWrFrame Config.probeAddr probe.2) 0, .ans (.err k)]) next probes
        events t := by
  have hmore : s.probeIdx + 1 < (probeList s.cfg).length := by simp [h.more_iff]
  have hnext : (probeList s.cfg)[s.probeIdx + 1]? = some next := by
    rw [← List.head?_drop, h.drop_next, List.head?_cons]
  have hrejected : step s = .next (probeRejected k (beginStep s)) :=
    h.step_eq.trans (completeProbe_eq_next.2 (.inr (.inl ⟨k, rfl, hmore, rfl⟩)))
  have htick := step_of_tick (s := probeRejected k (beginStep s)) (b := tickBundle window) h.wf
    (quiescent_eq_false.2 ⟨by simp, h.fault⟩) (by simp [nextInput, h.inputs]) rfl
  have hsent := step_of_quiet_settled
    (s := { beginStep (probeRejected k (beginStep s)) with
      settleCtr := (probeRejected k (beginStep s)).settleCtr - (tickBundle window).data.toNat })
    h.wf h.fault rfl (by simp [tickBundle_toNat hw, h.window_eq]) (by simp [nextInput, h.inputs]) hnext
  exact ⟨_, fun n => run_three n hrejected htick hsent,
    { wf := h.wf
      window_eq := h.window_eq
      fault := h.fault
      fsm := rfl
      remaining := h.drop_next
      frame := rfl
      variant := h.variant
      errAddr := rfl
      history := congrArg (· ++ [_]) h.history_answered
      inputs := by simp [h.inputs] }⟩

/-- The rounds of a DETECT from a probe in flight to the end of the schedule. -/
theorem rounds (hw : window < 2 ^ 32) {answers : List Answer} {rest : List Input}
    (h : ProbeSent window before probe probes (probeRounds window answers ++ rest) s)
    (hlen : answers.length = probes.length + 1) (hanswers : ∀ a ∈ answers, answersWrite a = true) :
    ∃ t : State, Sys2Proof.core.run (3 * answers.length) s = .next t ∧
      DetectEnded 0 (before ++ probeTraffic (probe :: probes) answers) (firstAccepted (probe :: probes) answers) rest t := by
  induction answers generalizing s before probe probes with
  | nil => simp at hlen
  | cons a answers ih =>
    cases a with
    | okBytes r => simp [answersWrite] at hanswers
    | ok =>
      obtain ⟨u, hstep, hu⟩ := h.accepted
      exact hu.finish hw hstep
    | err k =>
      cases probes with
      | nil =>
        obtain rfl : answers = [] := by simpa using hlen
        obtain ⟨u, hstep, hu⟩ := h.lastRejected
        exact hu.finish hw hstep
      | cons next probes =>
        obtain ⟨u, hround, hu⟩ := h.rejectedRound hw
        obtain ⟨t, hrun, ht⟩ := ih hu (by simpa using hlen) fun a ha => hanswers a (List.mem_cons_of_mem _ ha)
        refine ⟨t, (hround (3 * answers.length)).trans hrun, ?_⟩
        simpa [probeTraffic, firstAccepted] using ht

end ProbeSent

/-- DETECT puts the first probe of the list in flight. -/
theorem probeSent_of_detect {s : State} {events : List Input} (hc : s.cfg.wf = true) (hfault : s.fault = none)
    (hidle : s.fsm = .idle) (hs : s.settleCtr = 0) (hd : s.detDone = false) (hvar : s.variant = .unknown)
    (h : s.inputs = .command (bareBundle 0b101) :: events) :
    ∃ (t : State) (probe : Variant × Value) (probes : List (Variant × Value)), step s = .next t ∧
      probeList s.cfg = probe :: probes ∧ ProbeSent s.cfg.settleOrdinary s.history probe probes events t := by
  obtain ⟨probes, hlist⟩ : ∃ probes, probeList s.cfg = (.microV1, Config.magicMicroV1) :: probes := by
    obtain ⟨-, hlist⟩ | ⟨-, m2, m3, hlist⟩ := probeList_cases hc
    · exact ⟨_, hlist⟩
    · exact ⟨_, hlist⟩
  have hstep : step s = exec .detect (beginStep s) := by
    rw [step_of_command (nextInput_of_inputs h), decodeBundle_sel5 rfl]
  have hq := quiescent_eq_false_of_idle hfault hidle
  refine ⟨_, _, probes, hstep.trans (exec_detect_of_ready (s := beginStep s) hc hq (ready_eq_true.2 ⟨hidle, hs⟩) hd),
    hlist, ?_⟩
  exact {
    wf := hc
    window_eq := rfl
    fault := hfault
    fsm := rfl
    remaining := hlist
    frame := rfl
    variant := hvar
    errAddr := rfl
    history := rfl
    inputs := by simp [h] }

/-- Settles O29: DETECT puts the first probe in flight, and the rounds classify by the answers. -/
theorem detectClassifies : Obligations.DetectClassifies := by
  intro s answers rest hc hw hfault hidle hs hd hvar hlen hanswers h
  obtain ⟨u, probe, probes, hstep, hlist, hu⟩ := probeSent_of_detect hc hfault hidle hs hd hvar h
  obtain ⟨t, hrun, ht⟩ := hu.rounds hw (by simpa [hlist] using hlen) hanswers
  have hall : Sys2Proof.core.run (1 + 3 * answers.length) s = .next t := by
    rw [Nat.add_comm]
    exact (run_next hstep).trans hrun
  rw [hlist]
  exact ⟨t, hall, ht.fsm, ht.detDone, Nat.le_zero.1 ht.settle, ht.errCause, ht.rdata, ht.errAddr, ht.inputs, ht.history,
    ht.result⟩

end Sys2Proof.Machine
end
